-- ==== Sys2Proof/Word.lean ====
section
/-! DEFINITION. The bit vectors of the block: what the spec gives a fixed width (R9). Everything the spec calls a
natural (`now`, the deadlines, the indexes, the TX counters) is a `Nat` and stands in State. -/

namespace Sys2Proof

/-- A data byte, a record byte or an ASCII character code: 8 bits (R9, R90, R94). -/
abbrev Byte := BitVec 8

/-- A word on the bus: 8 data bits and the odd-parity bit at bit 8 (R9, R82). -/
abbrev Word9 := BitVec 9

/-- A pulse count: an entry of the PulseBurst sequence, and the edge counter (R9, R31, R33). -/
abbrev Count := BitVec 16

end Sys2Proof
end

