-- ==== Sys2Proof/Syntax.lean ====
section
/-! DEFINITION. The operations of the block (R2), one constructor for each row of spec/opcode_table.json. -/

namespace Sys2Proof

/-- The eleven operations. Operands are what their records carry (R92 to R96). -/
inductive Instr where
  /-- EDGE (R110): a falling edge on the RX line. -/
  | edge
  /-- BURST_ALARM (R113): the burst-end alarm fires. -/
  | burstAlarm
  /-- FRAME_ALARM (R117): the frame-end alarm fires. -/
  | frameAlarm
  /-- TX_TICK (R170): one tick of the fixed-period TX timer. -/
  | txTick
  /-- SETUP (R207): which of `txPin`, `txEnPin`, `rxPin` are given (mask bits 0, 1, 2; R96). -/
  | setup (txPin txEnPin rxPin : Bool)
  /-- SERVICE (R202, R203). -/
  | service
  /-- READ (R204). -/
  | read
  /-- SEND (R162): the bytes `b[0..n-1]`. -/
  | send (b : List Byte)
  /-- SEND_HEX (R167): the ASCII codes `s[0..L-1]`. -/
  | sendHex (chars : List Byte)
  /-- ACTIVE (R205). -/
  | active
  /-- TIME (R233): the target value of `now`. -/
  | time (t : Nat)
  deriving DecidableEq, Repr

/-- What triggers an operation (R2, R91, R231): an interrupt source, a host call, or the environment. -/
inductive Role where
  | interrupt
  | service
  | environment
  deriving DecidableEq, Repr

/-- The role column of R91. -/
def Instr.role : Instr → Role
  | .edge => .interrupt
  | .burstAlarm => .interrupt
  | .frameAlarm => .interrupt
  | .txTick => .interrupt
  | .setup _ _ _ => .service
  | .service => .service
  | .read => .service
  | .send _ => .service
  | .sendHex _ => .service
  | .active => .service
  | .time _ => .environment

end Sys2Proof
end

