-- ==== Sys2Proof/WellFormed.lean ====
section
/-! DEFINITION. Which terms of `Instr` a record can carry: a byte count or character count of 16 bits (R93, R94) and
a time of 64 bits (R95). -/

namespace Sys2Proof

/-- The operands fit the fields of the operation's record. -/
def Instr.wf : Instr → Bool
  | .edge => true
  | .burstAlarm => true
  | .frameAlarm => true
  | .txTick => true
  | .setup _ _ _ => true
  | .service => true
  | .read => true
  | .send b => decide (b.length < 2 ^ 16)
  | .sendHex chars => decide (chars.length < 2 ^ 16)
  | .active => true
  | .time t => decide (t < 2 ^ 64)

end Sys2Proof
end

