-- ==== Sys2Proof/Decode.lean ====
section
/-! DEFINITION. Operation records (R90 to R99): the decoder, total on any bytes, and after it the encoder. A record
that spells no operation is refused (`none`): a reserved opcode, a SETUP mask with a reserved bit, a record cut short
(R97). -/

namespace Sys2Proof

/-- The opcodes of R91. -/
inductive Opcode where
  | edge | burstAlarm | frameAlarm | txTick | setup | service | read | send | sendHex | active | time
  deriving DecidableEq, Repr

/-- The opcode map of R91. Every value not listed is reserved (R97). -/
def opcodeMap : List (Byte × Opcode) :=
  [(0x01, .edge), (0x02, .burstAlarm), (0x03, .frameAlarm), (0x04, .txTick)] ++
  [(0x10, .setup), (0x11, .service), (0x12, .read), (0x13, .send), (0x14, .sendHex), (0x15, .active)] ++
  [(0x20, .time)]

/-- The opcode a byte stands for, if any (R91, R97). -/
def Opcode.ofByte (b : Byte) : Option Opcode :=
  (opcodeMap.find? fun row => row.1 == b).map Prod.snd

/-- Little-endian bytes as a natural (R90). -/
def leNat : List Byte → Nat
  | [] => 0
  | b :: bs => b.toNat + 256 * leNat bs

/-- A natural as `k` little-endian bytes (R90). -/
def leBytes : Nat → Nat → List Byte
  | 0, _ => []
  | k + 1, n => BitVec.ofNat 8 n :: leBytes k (n / 256)

/-- A 16-bit length operand and that many bytes (formats FB and FH, R93 and R94); `none` if cut short. -/
def takeCounted : List Byte → Option (List Byte × List Byte)
  | lo :: hi :: r =>
    if leNat [lo, hi] ≤ r.length then some (r.take (leNat [lo, hi]), r.drop (leNat [lo, hi])) else none
  | _ => none

/-- The operands of a record, after its opcode byte (R92 to R96). -/
def decodeOperands : Opcode → List Byte → Option (Instr × List Byte)
  | .edge, r => some (.edge, r)
  | .burstAlarm, r => some (.burstAlarm, r)
  | .frameAlarm, r => some (.frameAlarm, r)
  | .txTick, r => some (.txTick, r)
  | .service, r => some (.service, r)
  | .read, r => some (.read, r)
  | .active, r => some (.active, r)
  | .setup, m :: r =>
    if m.extractLsb' 3 5 = 0 then some (.setup (m.getLsbD 0) (m.getLsbD 1) (m.getLsbD 2), r) else none
  | .setup, [] => none
  | .send, r => (takeCounted r).map fun x => (.send x.1, x.2)
  | .sendHex, r => (takeCounted r).map fun x => (.sendHex x.1, x.2)
  | .time, r => if 8 ≤ r.length then some (.time (leNat (r.take 8)), r.drop 8) else none

/-- The operation the bytes begin with, and the bytes after its record; `none` where the record is refused (R97). -/
def decode : List Byte → Option (Instr × List Byte)
  | [] => none
  | b :: r => (Opcode.ofByte b).bind fun o => decodeOperands o r

/-- The number of bytes a record takes, from its first three (R99); a reserved opcode counts as one byte. -/
def recordLength : List Byte → Nat
  | [] => 0
  | b :: r =>
    match Opcode.ofByte b with
    | some .setup => 2
    | some .time => 9
    | some .send => 3 + leNat (r.take 2)
    | some .sendHex => 3 + leNat (r.take 2)
    | _ => 1

/-- The pin-presence mask byte (R96). -/
def pinMask (txPin txEnPin rxPin : Bool) : Byte :=
  BitVec.ofNat 8 (txPin.toNat + 2 * txEnPin.toNat + 4 * rxPin.toNat)

/-- The record of an operation (R92 to R96). -/
def encode : Instr → List Byte
  | .edge => [0x01]
  | .burstAlarm => [0x02]
  | .frameAlarm => [0x03]
  | .txTick => [0x04]
  | .setup txPin txEnPin rxPin => [0x10, pinMask txPin txEnPin rxPin]
  | .service => [0x11]
  | .read => [0x12]
  | .send b => 0x13 :: (leBytes 2 b.length ++ b)
  | .sendHex chars => 0x14 :: (leBytes 2 chars.length ++ chars)
  | .active => [0x15]
  | .time t => 0x20 :: leBytes 8 t

/-- The bytes of a record whose bits are `w` (byte 0 least significant), `nbits` of them given and every later bit 0,
as long as the record's own length operand says. -/
def layOut (nbits w : Nat) : List Byte :=
  let given := leBytes ((nbits + 7) / 8) w
  let n := recordLength given
  given.take n ++ List.replicate (n - given.length) 0

/-- The operation the decoder reads from a record given as a number. -/
def decodeTableWord (nbits w : Nat) : Option Instr :=
  (decode (layOut nbits w)).map Prod.fst

end Sys2Proof
end

