-- ==== Sys2Proof/Config.lean ====
section
/-! DEFINITION. The parameters of one implementation (R7), their constraints (R8), the test configuration TC, and the
free values. "The model takes the following parameters as arguments" (R7): a State carries its own `Params`, no
operation writes them, and a claim about every state is a claim about every parameter value (log 1). -/

namespace Sys2Proof

/-- The parameters of R7, `RX_CAP` apart (it is fixed by `MAX_WORDLEN`). -/
structure Params where
  /-- `MAX_WORDLEN`: capacity in 9-bit words. OPEN. -/
  maxWordlen : Nat
  /-- `RX_CLK_HZ`: rate of the free-running RX counter; no rule depends on it (R275). -/
  rxClkHz : Nat
  /-- `T_BIT`: burst-end timeout in RX counter ticks. -/
  tBit : Nat
  /-- `T_FRAME`: frame-end timeout in RX counter ticks. -/
  tFrame : Nat
  /-- `TX_TICK_HZ`: rate of the TX tick; no rule depends on it (R235). -/
  txTickHz : Nat
  /-- `N_START`: countdown loaded for the start-marker burst. OPEN. -/
  nStart : Nat
  /-- `N_ZERO`: countdown loaded for a 0-bit burst. OPEN. -/
  nZero : Nat
  /-- `N_ONE`: countdown loaded for a 1-bit burst. OPEN. -/
  nOne : Nat
  /-- `N_SILENCE`: countdown loaded for the silence phase. OPEN. -/
  nSilence : Nat
  /-- `START_MIN`: least accepted pulse count of the start marker. OPEN. -/
  startMin : Nat
  /-- `START_MAX`: greatest accepted pulse count of the start marker. OPEN. -/
  startMax : Nat
  /-- `CLASSIFY` as plain data: the thresholds at which the class of a count changes, starting from 0 below them all
  (see `classify` in Machine/Operands.lean). Every function from a 16-bit count to a bit has such a list (log 2). -/
  classifyAt : List Nat
  /-- `DUTY`: the fixed "on" duty of the carrier output. OPEN; only the output view reads it. That it is a natural, of
  no stated unit, is the model's (DESIGN CHOICE, log 21): R7 and D34 give it no domain. -/
  duty : Nat
  /-- `CARRIER_HZ`: frequency of the PWM carrier. OPEN; only the output view reads it. That it is a natural, a whole
  number of hertz, is the model's (DESIGN CHOICE, log 21): R7 and D34 give it no domain. -/
  carrierHz : Nat
  /-- `RESET_DISARMS_ALARMS`: whether CAPTURE_RESET disarms both RX alarms. OPEN (D13). -/
  resetDisarmsAlarms : Bool
  deriving DecidableEq, Repr

/-- `RX_CAP = 9 * MAX_WORDLEN` (R7, R33). -/
def Params.rxCap (p : Params) : Nat := 9 * p.maxWordlen

/-- The parameter constraints of R8. A claim that needs one takes this as a hypothesis. -/
abbrev Params.Ok (p : Params) : Prop :=
  2 ≤ p.maxWordlen ∧ 0 < p.tBit ∧ p.tBit < p.tFrame ∧ p.startMin ≤ p.startMax ∧ p.nZero ≠ p.nOne

/-- The test configuration TC (95_test_vectors.md section 1.1, D31): the parameters of `State.reset`. DESIGN CHOICE
(log 1): the spec calls most of these OPEN, and no statement rests on a value given here. -/
def Params.tc : Params where
  maxWordlen := 4
  rxClkHz := 120000
  tBit := 20
  tFrame := 270
  txTickHz := 60000
  nStart := 29
  nZero := 3
  nOne := 7
  nSilence := 9
  startMin := 25
  startMax := 40
  classifyAt := [6]
  duty := 0
  carrierHz := 0
  resetDisarmsAlarms := false

/-- Free value (U3, R34): element `i` of `FRAME.data` at and above `FRAME.len` after decode number `k`. Nothing
constrains it (log 3). -/
opaque Config.freeFrameByte : Nat → Nat → Byte

/-- Free value (U4, D35, R36): element `i` of `TXW` where no rule reads it, after draw number `k`: above the words of an
accepted SEND (log 18), and everywhere once a transmission has finished (log 4). Nothing constrains it. -/
opaque Config.freeTxWord : Nat → Nat → Word9

end Sys2Proof
end

