-- ==== Sys2Proof/Machine/State.lean ====
section
/-! DEFINITION. The state of the block: elements S01 to S29 of 10_state.md, the parameters of R7, and the model's own
fields (the command in progress, the environment's choices still to come, the trace, and the counter of free values).
The block has no addressable memory and no program counter (R21, R60): its storage is three fixed-capacity arrays. -/

namespace Sys2Proof.Machine

/-- The phase of the TX state machine (R40). -/
inductive TxPhase where
  | burst
  | silence
  deriving DecidableEq, Repr

/-- The level of the carrier output (R45). -/
inductive Carrier where
  | off
  | on
  deriving DecidableEq, Repr

/-- The arbiter's state, a function of `tx_active` and `tx_finished` (R47). -/
inductive Arbiter where
  | idle
  | transmitting
  | pendingReenable
  deriving DecidableEq, Repr

/-- The decoded frame `FRAME` (R34): S15 `valid`, S16 `len`, S17 `data`. -/
structure RawFrame where
  valid : Bool
  len : Nat
  data : List Byte
  deriving DecidableEq, Repr

/-- The outcome codes of R221. -/
inductive OutcomeCode where
  | ok
  | rejBusy
  | rejSize
  | rejHexDigit
  | rejHexOdd
  | rejHexLen
  | decStart
  | decLength
  | decParity
  | decChecksum
  | cfgRxAbsent
  | cfgTxAbsent
  deriving DecidableEq, Repr

/-- The events that have an enabling condition (R228, R233). -/
inductive EventKind where
  | edge
  | burstAlarm
  | frameAlarm
  | txTick
  | time
  deriving DecidableEq, Repr

/-- What an operation hands to its caller or the model records of it (R11, R222): no element of the block, and no
operation reads it. -/
inductive Label where
  /-- An outcome code (R221). -/
  | outcome (c : OutcomeCode)
  /-- What READ returned (R204). -/
  | readResult (r : Option RawFrame)
  /-- What ACTIVE returned (R205). -/
  | activeResult (busy : Bool)
  /-- The frame notification string given to the dispatch layer (R206). -/
  | notified (chars : List Char)
  /-- A record of an event that was not enabled: it did not happen (R233; log 6). -/
  | notEnabled (e : EventKind)
  deriving DecidableEq, Repr

/-- A micro-step of a service-role command that is still to run (R12). The service-local temporaries `snap_N` and
`snap_B` (R50) are the operands of the micro-step that reads them. -/
inductive Micro where
  /-- CAPTURE_RESET (R120): E1, E3 of RX_ENABLE, X1, X3 of RX_DISABLE, M3 of SERVICE. -/
  | captureReset
  /-- E2 of RX_ENABLE (R125). -/
  | attach
  /-- X2 of RX_DISABLE (R126). -/
  | detach
  /-- M5 of START_TIMER (R201). -/
  | driveBus
  /-- M6 of START_TIMER (R201). -/
  | openGate
  /-- M2 of SERVICE (R202), with the snapshot taken by M1 (R73). -/
  | decode (snapN : Nat) (snapB : List Count)
  /-- M4 of SERVICE (R203). -/
  | checkFinished
  /-- M8 of SERVICE (R203). -/
  | clearFinished
  deriving DecidableEq, Repr

/-- Who takes the step in the gap before a micro-step (R12, R66): the environment's choice, as data. -/
inductive Turn where
  /-- The command goes on. -/
  | service
  /-- The next record of `inbox`, an event, comes first. -/
  | event
  deriving DecidableEq, Repr

/-- The block raises no exception and takes no trap (R220): no step ends in a fault. Raised by nobody; safe. -/
inductive Fault where
  deriving DecidableEq, Repr

/-- The refusals of R223. Each is safe: a refused run proves nothing. -/
inductive Refusal where
  /-- RF_NOT_SETUP, raised by SERVICE, READ, SEND, SEND_HEX and ACTIVE before SETUP (R223). Safe. -/
  | notSetup
  /-- RF_RESETUP, raised by a second SETUP (R223). Safe. -/
  | resetup
  /-- RF_TX_ABSENT, raised by SEND and SEND_HEX where `tx_present = 0` (R223). Safe. -/
  | txAbsent
  /-- RF_RESERVED, raised by the step where the bytes spell no operation (R97, R223). Safe. -/
  | reserved
  /-- An instruction without a meaning; no arm of `exec` raises it. Safe. -/
  | notModelled (mnemonic : String)
  deriving DecidableEq, Repr

/-- The state. -/
structure State where
  /-- S01 (R23). -/
  initialized : Bool
  /-- S02 (R24). -/
  rxPresent : Bool
  /-- S03 (R24). -/
  txPresent : Bool
  /-- S04 (R25): the RX counter, an unbounded natural. -/
  now : Nat
  /-- S05 (R26). -/
  burstArmed : Bool
  /-- S06 (R26). -/
  burstDeadline : Nat
  /-- S07 (R27). -/
  frameArmed : Bool
  /-- S08 (R27). -/
  frameDeadline : Nat
  /-- S09 (R28). -/
  attached : Bool
  /-- S10 (R29). -/
  receiving : Bool
  /-- S11 (R30). -/
  frameEnd : Bool
  /-- S12 (R31). -/
  edgeCount : Count
  /-- S13 (R32). -/
  burstIdx : Nat
  /-- S14 (R33): `BURSTS[0 .. RX_CAP-1]`. -/
  bursts : List Count
  /-- S15, S16, S17 (R34): `FRAME`. -/
  frame : RawFrame
  /-- S18 (R35). -/
  frameReady : Bool
  /-- S19 (R36): `TXW[0 .. MAX_WORDLEN-1]`. -/
  txw : List Word9
  /-- S20 (R37). -/
  txTotal : Nat
  /-- S21 (R38). -/
  txBit : Nat
  /-- S22 (R39). -/
  txStarted : Bool
  /-- S23 (R40). -/
  txPhase : TxPhase
  /-- S24 (R41). -/
  txCount : Nat
  /-- S25 (R42). -/
  txActive : Bool
  /-- S26 (R43). -/
  txFinished : Bool
  /-- S27 (R44). -/
  txGate : Bool
  /-- S28 (R45). -/
  carrierOut : Carrier
  /-- S29 (R46). -/
  busEnOut : Bool
  /-- The parameters of R7; no operation writes them. -/
  cfg : Params
  /-- The micro-steps of the current service-role command still to run (R12, R13); empty between commands. -/
  micro : List Micro
  /-- The operation records still to come, byte by byte (R13, R90): the environment's and the host's choice. -/
  inbox : List Byte
  /-- Who moves in each of the coming gaps between micro-steps (R66): the environment's choice. Where it is empty the
  command goes on. -/
  sched : List Turn
  /-- The trace (R11, R222), newest first (DESIGN CHOICE, log 9). -/
  trace : List Label
  /-- How many free values have been drawn (log 3, log 4, log 18). -/
  freeCount : Nat
  deriving DecidableEq, Repr

/-- Power-on (R22): `initialized = false` is all the spec gives. Every other element is unspecified there, and the
values here are the model's (DESIGN CHOICE, log 5): 0, `false`, `OFF`, `SILENCE`, buffers of their capacity filled
with 0. -/
def State.powerOn (p : Params) : State where
  initialized := false
  rxPresent := false
  txPresent := false
  now := 0
  burstArmed := false
  burstDeadline := 0
  frameArmed := false
  frameDeadline := 0
  attached := false
  receiving := false
  frameEnd := false
  edgeCount := 0
  burstIdx := 0
  bursts := List.replicate p.rxCap 0
  frame := { valid := false, len := 0, data := List.replicate p.maxWordlen 0 }
  frameReady := false
  txw := List.replicate p.maxWordlen 0
  txTotal := 0
  txBit := 0
  txStarted := false
  txPhase := .silence
  txCount := 0
  txActive := false
  txFinished := false
  txGate := false
  carrierOut := .off
  busEnOut := false
  cfg := p
  micro := []
  inbox := []
  sched := []
  trace := []
  freeCount := 0

/-- Right after reset: power-on (R253), with the parameters of TC (log 1). -/
def State.reset : State := State.powerOn Params.tc

end Sys2Proof.Machine
end

