-- ==== Sys2Proof/Machine/Flags.lean ====
section
/-! DEFINITION. Parity and checksum (R140, R141), and what the flags say: which event is enabled (R228, R233), the
arbiter's state (R47), the busy test of SEND (R163). -/

namespace Sys2Proof.Machine

/-- The number of 1 bits (R10). -/
def popcount {n : Nat} (v : BitVec n) : Nat :=
  (List.range n).countP fun i => v.getLsbD i

/-- PARITY (R140): makes the number of 1 bits of data and parity together odd (PRESUMED by the spec, G1; log 11). -/
def parity (d : Byte) : Nat := 1 - popcount d % 2

/-- The sum of bytes, unbounded (R10). -/
def byteSum : List Byte → Nat
  | [] => 0
  | b :: bs => b.toNat + byteSum bs

/-- CHECKSUM (R141): the sum of the bytes modulo 256. -/
def checksum (b : List Byte) : Byte := BitVec.ofNat 8 (byteSum b)

/-- The burst-end alarm is due: BURST_ALARM's enabling condition (R113, R228). -/
def burstEnabled (s : State) : Bool :=
  s.initialized && s.burstArmed && decide (s.burstDeadline ≤ s.now)

/-- The frame-end alarm's deadline has come (R117). -/
def frameDue (s : State) : Bool :=
  s.initialized && s.frameArmed && decide (s.frameDeadline ≤ s.now)

/-- FRAME_ALARM's enabling condition (R228): due, and BURST_ALARM does not go first (log 12). -/
def frameEnabled (s : State) : Bool :=
  frameDue s && !(burstEnabled s && decide (s.burstDeadline ≤ s.frameDeadline))

/-- After SETUP the environment may issue EDGE exactly while neither alarm is enabled (R228). -/
def edgeEnabled (s : State) : Bool :=
  !burstEnabled s && !frameEnabled s

/-- TX_TICK's enabling condition (R170, R228). -/
def tickEnabled (s : State) : Bool :=
  s.initialized && s.txPresent && s.txGate

/-- TIME's enabling condition (R233): not backwards, and past no armed deadline. -/
def timeEnabled (t : Nat) (s : State) : Bool :=
  s.initialized && decide (s.now ≤ t) && (!s.burstArmed || decide (t ≤ s.burstDeadline)) &&
    (!s.frameArmed || decide (t ≤ s.frameDeadline))

/-- The arbiter's state (R47). -/
def arbiter (s : State) : Arbiter :=
  if s.txActive then .transmitting else if s.txFinished then .pendingReenable else .idle

/-- What makes a SEND busy (R163): Transmitting or PendingReenable. -/
def txBusy (s : State) : Bool := s.txActive || s.txFinished

/-- What ACTIVE returns (R205). -/
def isActive (s : State) : Bool := s.receiving || s.txActive || s.txFinished

/-- The code of an outcome (R221). -/
def OutcomeCode.code : OutcomeCode → Byte
  | .ok => 0x00
  | .rejBusy => 0x01
  | .rejSize => 0x02
  | .rejHexDigit => 0x03
  | .rejHexOdd => 0x04
  | .rejHexLen => 0x05
  | .decStart => 0x10
  | .decLength => 0x11
  | .decParity => 0x12
  | .decChecksum => 0x13
  | .cfgRxAbsent => 0x20
  | .cfgTxAbsent => 0x21

end Sys2Proof.Machine
end

