-- ==== Sys2Proof/Machine/Operands.lean ====
section
/-! DEFINITION. The forms an operand takes: pulse counts (R142, R143), 9-bit words (R82, R160, R161), hexadecimal
characters (R87, R88, R166), and the outputs seen from outside (R45, R46). -/

namespace Sys2Proof.Machine

/-- CLASSIFY (R142): the bit a pulse count stands for, by the thresholds at or below it (log 2). -/
def classify (p : Params) (c : Count) : Bool :=
  (p.classifyAt.countP fun t => decide (t ≤ c.toNat)) % 2 == 1

/-- START_OK (R143), both bounds inclusive. -/
def startOk (p : Params) (c : Count) : Bool :=
  decide (p.startMin ≤ c.toNat) && decide (c.toNat ≤ p.startMax)

/-- The natural whose bits are given, least significant first (R10). -/
def bitsToNat : List Bool → Nat
  | [] => 0
  | b :: bs => b.toNat + 2 * bitsToNat bs

/-- PACK_WORD (R160): the data byte at bits 7..0 and its parity at bit 8. -/
def packWord (d : Byte) : Word9 := BitVec.ofNat 9 (d.toNat + 256 * parity d)

/-- The words of a transmission (R164): one for each byte, then the checksum's. -/
def txWords (b : List Byte) : List Word9 := b.map packWord ++ [packWord (checksum b)]

/-- TXBIT (R161): bit `i mod 9` of word `i / 9` (0 outside the buffer, which no run reaches; log 13). -/
def txBitOf (txw : List Word9) (i : Nat) : Bool := (txw.getD (i / 9) 0).getLsbD (i % 9)

/-- The value of a hexadecimal digit (R87; PRESUMED by the spec, G2; log 11); `none` for any other character code. -/
def hexVal (c : Byte) : Option Nat :=
  if 0x30 ≤ c.toNat ∧ c.toNat ≤ 0x39 then some (c.toNat - 0x30)
  else if 0x41 ≤ c.toNat ∧ c.toNat ≤ 0x46 then some (c.toNat - 0x41 + 10)
  else if 0x61 ≤ c.toNat ∧ c.toNat ≤ 0x66 then some (c.toNat - 0x61 + 10)
  else none

/-- The values of a string's digits; `none` if a character is not a digit. -/
def hexVals : List Byte → Option (List Nat)
  | [] => some []
  | c :: cs => (hexVal c).bind fun v => (hexVals cs).map fun vs => v :: vs

/-- The bytes of digit pairs, the left digit the high nibble (R87). -/
def hexPairs : List Nat → List Byte
  | hi :: lo :: r => BitVec.ofNat 8 (16 * hi + lo) :: hexPairs r
  | _ => []

/-- HEX_DECODE (R166): the bytes, or the rejection; the tests in the order digit, odd length, length. -/
def hexDecode (p : Params) (chars : List Byte) : Except OutcomeCode (List Byte) :=
  match hexVals chars with
  | none => .error .rejHexDigit
  | some vs =>
    if vs.length % 2 ≠ 0 then .error .rejHexOdd
    else if p.maxWordlen < vs.length / 2 then .error .rejHexLen
    else .ok (hexPairs vs)

/-- An upper-case hexadecimal digit (R88; PRESUMED by the spec, G3; log 11). -/
def hexDigit (v : Nat) : Char :=
  ['0', '1', '2', '3', '4', '5', '6', '7', '8', '9', 'A', 'B', 'C', 'D', 'E', 'F'].getD v '0'

/-- HEX_ENCODE (R88, R206): the frame notification string. -/
def hexEncode : List Byte → List Char
  | [] => []
  | b :: bs => hexDigit (b.toNat / 16) :: hexDigit (b.toNat % 16) :: hexEncode bs

/-- The carrier output as the port shows it (R45): duty and frequency while `ON`. -/
def carrierLevel (s : State) : Option (Nat × Nat) :=
  match s.carrierOut with
  | .on => some (s.cfg.duty, s.cfg.carrierHz)
  | .off => none

end Sys2Proof.Machine
end

