-- ==== Sys2Proof/Machine/FrameDecoder.lean ====
section
/-! DEFINITION. The Frame Decoder (R144 to R149): DECODE, a function of the snapshot and the parameters alone. -/

namespace Sys2Proof.Machine

/-- What DECODE returns: `ok data` for a valid frame, or the failure's code (R145). -/
inductive DecodeResult where
  | ok (data : List Byte)
  | failed (c : OutcomeCode)
  deriving DecidableEq, Repr

/-- The bits of word `j`, least significant first: the classes of the bursts `1 + 9*j + i`, `i = 0..8` (R145). -/
def wordBits (p : Params) (B : List Count) (j : Nat) : List Bool :=
  (List.range 9).map fun i => classify p (B.getD (1 + 9 * j + i) 0)

/-- Word `j` of a capture (R145). -/
def wordAt (p : Params) (B : List Count) (j : Nat) : Word9 := BitVec.ofNat 9 (bitsToNat (wordBits p B j))

/-- The data byte of a word (R82). -/
def wordData (w : Word9) : Byte := w.setWidth 8

/-- Odd parity over all nine bits (R145 (c)). -/
def wordParityOk (w : Word9) : Bool := popcount w % 2 == 1

/-- DECODE (R145): start marker, then length, then parity, then checksum. -/
def decodeFrame (p : Params) (N : Nat) (B : List Count) : DecodeResult :=
  if N = 0 ∨ startOk p (B.getD 0 0) = false then .failed .decStart
  else if (N - 1) % 9 ≠ 0 ∨ N - 1 < 9 then .failed .decLength
  else
    let ws := (List.range ((N - 1) / 9)).map (wordAt p B)
    if ws.all wordParityOk = false then .failed .decParity
    else
      let d := ws.map wordData
      if d.getLastD 0 ≠ checksum d.dropLast then .failed .decChecksum else .ok d.dropLast

/-- The outcome code of a decode (R145, R221). -/
def DecodeResult.code : DecodeResult → OutcomeCode
  | .ok _ => .ok
  | .failed c => c

/-- `valid` (R145). -/
def DecodeResult.valid : DecodeResult → Bool
  | .ok _ => true
  | .failed _ => false

/-- The data bytes; none after a failure, where `len = 0` (R145). -/
def DecodeResult.data : DecodeResult → List Byte
  | .ok d => d
  | .failed _ => []

end Sys2Proof.Machine
end

