-- ==== Sys2Proof/Machine/Ops.lean ====
section
/-! DEFINITION. The named operations over State that the meanings share: the trace, the buffers, the procedures
CAPTURE_RESET, RX_ENABLE, RX_DISABLE and START_TIMER (R120 to R126, R201), and the fetch of a record. The block takes
no exception (R220): what stands in its place is the outcome code an operation records (R221), the one operation
`record`. -/

namespace Sys2Proof.Machine

/-- Put a label on the trace (R11, R222). -/
def record (l : Label) (s : State) : State := { s with trace := l :: s.trace }

/-- An event that is not enabled does not happen (R233): only the trace says that its record came (log 6). -/
def notEnabled (e : EventKind) (s : State) : State := record (.notEnabled e) s

/-- CAPTURE_RESET (R120); what it leaves alone is R121. -/
def captureReset (s : State) : State :=
  { s with
    edgeCount := 0
    burstIdx := 0
    bursts := List.replicate s.cfg.rxCap 0
    receiving := false
    frameEnd := false
    burstArmed := s.burstArmed && !s.cfg.resetDisarmsAlarms
    frameArmed := s.frameArmed && !s.cfg.resetDisarmsAlarms }

/-- E2 of RX_ENABLE (R125). -/
def attach (s : State) : State := { s with attached := true }

/-- X2 of RX_DISABLE (R126). -/
def detach (s : State) : State := { s with attached := false }

/-- M5 of START_TIMER (R201). -/
def driveBus (s : State) : State := { s with busEnOut := true }

/-- M6 of START_TIMER (R201). -/
def openGate (s : State) : State := { s with txGate := true }

/-- M8 of SERVICE (R203). -/
def clearFinished (s : State) : State := { s with txFinished := false }

/-- ADVANCE (R115). -/
def advance (p : Params) (i : Nat) : Nat := if i + 1 = p.rxCap then 0 else i + 1

/-- The elements of `FRAME.data` from `len` up to its capacity: free values of draw `k` (U3; log 3). -/
def freeFrameTail (p : Params) (k len : Nat) : List Byte :=
  (List.range (p.maxWordlen - len)).map fun i => Config.freeFrameByte k (len + i)

/-- M2 of SERVICE (R202): the decode of the snapshot becomes `FRAME`. -/
def commitDecode (snapN : Nat) (snapB : List Count) (s : State) : State :=
  let r := decodeFrame s.cfg snapN snapB
  record (.outcome r.code)
    { s with
      frame :=
        { valid := r.valid, len := r.data.length, data := r.data ++ freeFrameTail s.cfg s.freeCount r.data.length }
      frameReady := true
      freeCount := s.freeCount + 1 }

/-- The elements of `TXW` from `start` up to its capacity: free values of draw `k` (R36, U4; log 4, log 18). -/
def freeTxWords (p : Params) (k start : Nat) : List Word9 :=
  (List.range (p.maxWordlen - start)).map fun i => Config.freeTxWord k (start + i)

/-- The micro-steps of RX_ENABLE (R125). -/
def rxEnable (rxPresent : Bool) : List Micro :=
  if rxPresent then [.captureReset, .attach, .captureReset] else []

/-- The micro-steps of RX_DISABLE (R126). -/
def rxDisable (rxPresent : Bool) : List Micro :=
  if rxPresent then [.captureReset, .detach, .captureReset] else []

/-- The micro-steps of START_TIMER (R201), in the order R267 demands. -/
def startTimer (rxPresent : Bool) : List Micro := rxDisable rxPresent ++ [.driveBus, .openGate]

/-- The micro-steps of SERVICE's deferred re-enable that follow M4 with `fin = 1` (R203). -/
def reenable (rxPresent : Bool) : List Micro := rxEnable rxPresent ++ [.clearFinished]

/-- What SERVICE's M1 leaves to do (R202, R203): with a frame pending, the decode of the snapshot (R73) and the
reset; then M4. -/
def servicePlan (s : State) : List Micro :=
  if s.rxPresent && s.frameEnd then
    [.decode s.burstIdx (s.bursts.take s.burstIdx), .captureReset, .checkFinished]
  else [.checkFinished]

/-- The next operation of the inbox, with the state that has its record taken out. -/
def fetch (s : State) : Option (Instr × State) :=
  (decode s.inbox).map fun x => (x.1, { s with inbox := x.2 })

end Sys2Proof.Machine
end

