-- ==== Sys2Proof/Machine/Environment.lean ====
section
/-! DEFINITION. The environment's step: TIME (R233). -/

namespace Sys2Proof.Machine

/-- TIME (R233). Before SETUP it has no effect (R250). -/
def execTime (t : Nat) (s : State) : Host.Outcome State Fault Refusal :=
  if !s.initialized then .next s
  else if timeEnabled t s then .next { s with now := t }
  else .next (notEnabled .time s)

end Sys2Proof.Machine
end

