-- ==== Sys2Proof/Machine/Sequencer.lean ====
section
/-! DEFINITION. How a service-role command runs: one atomic micro-step after another (R12), with the gaps between
them open to events (R66). -/

namespace Sys2Proof.Machine

/-- One micro-step. Only M4 of SERVICE adds micro-steps, those of the deferred re-enable (R203). -/
def runMicro : Micro → State → State
  | .captureReset, s => captureReset s
  | .attach, s => attach s
  | .detach, s => detach s
  | .driveBus, s => driveBus s
  | .openGate, s => openGate s
  | .decode n b, s => commitDecode n b s
  | .checkFinished, s => if s.txFinished then { s with micro := reenable s.rxPresent ++ s.micro } else s
  | .clearFinished, s => clearFinished s

/-- The longest run of micro-steps a command can have left after M1 (SERVICE: M2 to M8), and one to spare (DESIGN
CHOICE, log 17). -/
def commandFuel : Nat := 8

/-- Run the current command on: until it ends, or until `sched` gives the gap before its next micro-step to an event.
Where `sched` is empty the command runs to its end. -/
def goOn : Nat → State → State
  | 0, s => s
  | k + 1, s =>
    match s.micro, s.sched with
    | [], _ => s
    | _ :: _, .event :: _ => s
    | m :: ms, .service :: ts => goOn k (runMicro m { s with micro := ms, sched := ts })
    | m :: ms, [] => goOn k (runMicro m { s with micro := ms })

/-- Go on with the current command. -/
def resume (s : State) : State := goOn commandFuel s

/-- Begin the rest of a command after its first micro-step. -/
def startCommand (plan : List Micro) (s : State) : State := resume { s with micro := plan }

end Sys2Proof.Machine
end

