-- ==== Sys2Proof/Machine/Facade.lean ====
section
/-! DEFINITION. The Bus Facade: SETUP, SERVICE, READ, ACTIVE (43_arbiter_facade.md). -/

namespace Sys2Proof.Machine

/-- M1 of SETUP (R207). The outputs are written only where the TX subsystem is present. -/
def setupState (txPin txEnPin rxPin : Bool) (s : State) : State :=
  { s with
    rxPresent := rxPin
    txPresent := txPin && txEnPin
    now := 0
    burstArmed := false
    burstDeadline := 0
    frameArmed := false
    frameDeadline := 0
    attached := false
    receiving := false
    frameEnd := false
    edgeCount := 0
    burstIdx := 0
    bursts := List.replicate s.cfg.rxCap 0
    frame := { valid := false, len := 0, data := List.replicate s.cfg.maxWordlen 0 }
    frameReady := false
    txw := List.replicate s.cfg.maxWordlen 0
    txTotal := 0
    txBit := 0
    txStarted := false
    txPhase := .silence
    txCount := 0
    txActive := false
    txFinished := false
    txGate := false
    carrierOut := if txPin && txEnPin then .off else s.carrierOut
    busEnOut := if txPin && txEnPin then false else s.busEnOut
    initialized := true }

/-- The configuration faults SETUP records (R207, R221): a label, not a stop (DEDUCED, log 15). -/
def recordAbsent (txPin txEnPin rxPin : Bool) (s : State) : State :=
  let s := if rxPin then s else record (.outcome .cfgRxAbsent) s
  if txPin && txEnPin then s else record (.outcome .cfgTxAbsent) s

/-- SETUP (R207): M1, then RX_ENABLE. -/
def execSetup (txPin txEnPin rxPin : Bool) (s : State) : Host.Outcome State Fault Refusal :=
  if s.initialized then .refused .resetup
  else
    .next (startCommand (rxEnable rxPin)
      (recordAbsent txPin txEnPin rxPin (setupState txPin txEnPin rxPin s)))

/-- SERVICE (R202, R203): M1 takes the snapshot; what follows is the plan it leaves. -/
def execService (s : State) : Host.Outcome State Fault Refusal :=
  if !s.initialized then .refused .notSetup
  else .next (startCommand (servicePlan s) s)

/-- The frame READ hands out (R204): `FRAME.data[0 .. FRAME.len-1]`. -/
def handedFrame (f : RawFrame) : RawFrame := { f with data := f.data.take f.len }

/-- The frame notification (R206): for a valid frame, once. -/
def notify (f : RawFrame) (s : State) : State :=
  if f.valid then record (.notified (hexEncode f.data)) s else s

/-- READ (R204, R206). -/
def execRead (s : State) : Host.Outcome State Fault Refusal :=
  if !s.initialized then .refused .notSetup
  else if s.frameReady then
    .next (notify (handedFrame s.frame)
      (record (.readResult (some (handedFrame s.frame))) { s with frameReady := false }))
  else .next (record (.readResult none) s)

/-- ACTIVE (R205). -/
def execActive (s : State) : Host.Outcome State Fault Refusal :=
  if !s.initialized then .refused .notSetup
  else .next (record (.activeResult (isActive s)) s)

end Sys2Proof.Machine
end

