-- ==== Sys2Proof/Machine/Receive.lean ====
section
/-! DEFINITION. The Burst Capture Engine: EDGE, BURST_ALARM, FRAME_ALARM (40_rx_capture.md). -/

namespace Sys2Proof.Machine

/-- EDGE with the handler attached (R110, steps (1) to (4)). -/
def countEdge (s : State) : State :=
  { s with
    receiving := true
    edgeCount := s.edgeCount + 1
    burstDeadline := s.now + s.cfg.tBit
    burstArmed := true
    frameDeadline := s.now + s.cfg.tFrame
    frameArmed := true }

/-- EDGE (R110). Before SETUP it has no effect (R250); after SETUP it is enabled while no alarm is (R228); with no
handler attached the edge is lost. -/
def execEdge (s : State) : Host.Outcome State Fault Refusal :=
  if !s.initialized then .next s
  else if !edgeEnabled s then .next (notEnabled .edge s)
  else if s.rxPresent && s.attached then .next (countEdge s)
  else .next s

/-- The burst is stored (R113): at the current index, which then advances. -/
def storeBurst (s : State) : State :=
  { s with
    bursts := s.bursts.set s.burstIdx s.edgeCount
    edgeCount := 0
    burstIdx := advance s.cfg s.burstIdx
    burstArmed := false }

/-- BURST_ALARM (R113). -/
def execBurstAlarm (s : State) : Host.Outcome State Fault Refusal :=
  if burstEnabled s then .next (storeBurst s) else .next (notEnabled .burstAlarm s)

/-- The frame boundary is marked (R117). -/
def markFrameEnd (s : State) : State :=
  { s with receiving := false, frameEnd := true, frameArmed := false }

/-- FRAME_ALARM (R117). -/
def execFrameAlarm (s : State) : Host.Outcome State Fault Refusal :=
  if frameEnabled s then .next (markFrameEnd s) else .next (notEnabled .frameAlarm s)

end Sys2Proof.Machine
end

