-- ==== Sys2Proof/Machine/Transmit.lean ====
section
/-! DEFINITION. The Waveform Generator: SEND, SEND_HEX, TX_TICK (42_tx_generator.md). -/

namespace Sys2Proof.Machine

/-- SEND accepted (R164): the words are packed over the first elements of `TXW` and the state machine is set so that
the first tick loads the start marker. The elements above those words are free values (U4, D35; log 18). -/
def acceptSend (b : List Byte) (s : State) : State :=
  record (.outcome .ok)
    { s with
      txw := txWords b ++ freeTxWords s.cfg s.freeCount (b.length + 1)
      txTotal := (b.length + 1) * 9
      txBit := 0
      txStarted := false
      txPhase := .silence
      txCount := 0
      txActive := true
      freeCount := s.freeCount + 1 }

/-- SEND (R163, R164, then START_TIMER, R201), shared by SEND and SEND_HEX (R167). -/
def sendBytes (b : List Byte) (s : State) : Host.Outcome State Fault Refusal :=
  if !s.initialized then .refused .notSetup
  else if !s.txPresent then .refused .txAbsent
  else if txBusy s then .next (record (.outcome .rejBusy) s)
  else if s.cfg.maxWordlen - 1 < b.length then .next (record (.outcome .rejSize) s)
  else .next (startCommand (startTimer s.rxPresent) (acceptSend b s))

/-- SEND (R162). -/
def execSend (b : List Byte) (s : State) : Host.Outcome State Fault Refusal := sendBytes b s

/-- SEND_HEX (R167). -/
def execSendHex (chars : List Byte) (s : State) : Host.Outcome State Fault Refusal :=
  if !s.initialized then .refused .notSetup
  else if !s.txPresent then .refused .txAbsent
  else
    match hexDecode s.cfg chars with
    | .error c => .next (record (.outcome c) s)
    | .ok b => sendBytes b s

/-- The finish (R171). `TXW` is unspecified from here on (R36; log 4). -/
def finishTx (s : State) : State :=
  { s with
    carrierOut := .off
    busEnOut := false
    txActive := false
    txFinished := true
    txGate := false
    txw := freeTxWords s.cfg s.freeCount 0
    freeCount := s.freeCount + 1 }

/-- Burst over (R172). -/
def beginSilence (s : State) : State :=
  { s with txPhase := .silence, carrierOut := .off, txCount := s.cfg.nSilence }

/-- Silence over, nothing sent yet: the start marker (R173). -/
def loadStart (s : State) : State :=
  { s with txCount := s.cfg.nStart, txStarted := true, txPhase := .burst, carrierOut := .on }

/-- Silence over: the next bit (R173). -/
def loadBit (s : State) : State :=
  { s with
    txCount := if txBitOf s.txw s.txBit then s.cfg.nOne else s.cfg.nZero
    txBit := s.txBit + 1
    txPhase := .burst
    carrierOut := .on }

/-- Otherwise (R174). -/
def countDown (s : State) : State := { s with txCount := s.txCount - 1 }

/-- One tick of the state machine (R170). -/
def tick (s : State) : State :=
  if !s.txActive then s
  else if s.txCount = 0 then
    if s.txBit = s.txTotal then finishTx s
    else
      match s.txPhase with
      | .burst => beginSilence s
      | .silence => if s.txStarted then loadBit s else loadStart s
  else countDown s

/-- TX_TICK (R170). -/
def execTxTick (s : State) : Host.Outcome State Fault Refusal :=
  if tickEnabled s then .next (tick s) else .next (notEnabled .txTick s)

end Sys2Proof.Machine
end

