-- ==== Sys2Proof/Machine/Dispatch.lean ====
section
/-! DEFINITION. One arm for each operation. -/

namespace Sys2Proof.Machine

/-- What an operation does. -/
def exec (i : Instr) (s : State) : Host.Outcome State Fault Refusal :=
  match i with
  | .edge => Sys2Proof.Machine.execEdge s
  | .burstAlarm => Sys2Proof.Machine.execBurstAlarm s
  | .frameAlarm => Sys2Proof.Machine.execFrameAlarm s
  | .txTick => Sys2Proof.Machine.execTxTick s
  | .setup txPin txEnPin rxPin => Sys2Proof.Machine.execSetup txPin txEnPin rxPin s
  | .service => Sys2Proof.Machine.execService s
  | .read => Sys2Proof.Machine.execRead s
  | .send b => Sys2Proof.Machine.execSend b s
  | .sendHex chars => Sys2Proof.Machine.execSendHex chars s
  | .active => Sys2Proof.Machine.execActive s
  | .time t => Sys2Proof.Machine.execTime t s

end Sys2Proof.Machine
end

