-- ==== Sys2Proof/Machine/Fetch.lean ====
section
/-! DEFINITION. Where the next operation comes from (R12, R66): with no command in progress, the next record of the
inbox; with one in progress, its next micro-steps, or the event that `sched` puts before them. -/

namespace Sys2Proof.Machine

/-- Run the next operation of the inbox. Where there is none, nothing happens (log 7); where the bytes spell none, the
record is refused (R97). -/
def stepFetch (s : State) : Host.Outcome State Fault Refusal :=
  match s.inbox with
  | [] => .next s
  | _ :: _ =>
    match fetch s with
    | none => .refused .reserved
    | some (i, s') => exec i s'

/-- The gap before a micro-step was given to an event: the next operation of the inbox, if it is an event or TIME. A
host command cannot begin before the current one has ended (R13); then, and where the inbox is empty, the command goes
on. -/
def stepGap (s : State) : Host.Outcome State Fault Refusal :=
  match s.inbox with
  | [] => .next (resume s)
  | _ :: _ =>
    match fetch s with
    | none => .refused .reserved
    | some (i, s') => if i.role = .service then .next (resume s) else exec i s'

/-- The next step, by what is in progress. -/
def nextStep (s : State) : Host.Outcome State Fault Refusal :=
  match s.micro, s.sched with
  | [], _ => stepFetch s
  | _ :: _, .event :: ts => stepGap { s with sched := ts }
  | _ :: _, _ => .next (resume s)

/-- The state whose next step runs the given record: no command in progress, and the record at the head of the inbox
(log 8). -/
def placeRecord (s : State) (nbits w : Nat) : State :=
  { s with micro := [], inbox := layOut nbits w ++ s.inbox }

end Sys2Proof.Machine
end

