-- ==== Sys2Proof/Machine/Step.lean ====
section
/-! DEFINITION. One step of the machine (R66). -/

namespace Sys2Proof.Machine

/-- One step. -/
def step (s : State) : Host.Outcome State Fault Refusal := nextStep s

/-- `s` with the given record where the next step fetches (log 8). -/
def State.withFetchWord (s : State) (nbits w : Nat) : State := placeRecord s nbits w

end Sys2Proof.Machine
end

