-- ==== Sys2Proof/Safety.lean ====
section
/-! DEFINITION. The terms claims are stated in: the invariants of R48 and their company, what an undisturbed command
leaves, runs of operations, and the frame a transmission puts on the bus. -/

namespace Sys2Proof.Machine

/-- The three buffers have their capacities (R61, R62, R63). -/
def BuffersOk (s : State) : Prop :=
  s.bursts.length = s.cfg.rxCap ∧ s.txw.length = s.cfg.maxWordlen ∧ s.frame.data.length = s.cfg.maxWordlen

/-- The capture side: (I-e) of R48; both alarms come from one EDGE (R110, R229 (b)); no time passes an armed deadline
(R233); a count not yet stored has its alarm armed (R118); a reception in progress awaits its frame end (R205 (c)); the
handler is attached only where there is an RX pin (R125). -/
def ReceiveOk (s : State) : Prop :=
  s.burstIdx < s.cfg.rxCap ∧
  (s.burstArmed = true → s.frameArmed = true ∧ s.burstDeadline + s.cfg.tFrame = s.frameDeadline + s.cfg.tBit) ∧
  (s.burstArmed = true → s.now ≤ s.burstDeadline) ∧
  (s.frameArmed = true → s.now ≤ s.frameDeadline) ∧
  (s.burstArmed = false → s.edgeCount = 0) ∧
  (s.receiving = true → s.frameArmed = true) ∧
  (s.attached = true → s.rxPresent = true)

/-- The decoded frame: (I-f) of R48, and the bound of R147. -/
def FrameOk (s : State) : Prop :=
  (s.frame.valid = true → s.frame.len + 2 ≤ s.cfg.maxWordlen) ∧ s.frame.len ≤ s.cfg.maxWordlen

/-- The TX state machine: (I-a) and (I-d) of R48, the range of R37, the bound of R9 on the countdown, and where the
machine stands before the start marker is loaded (R164). -/
def TransmitOk (s : State) : Prop :=
  ¬(s.txActive = true ∧ s.txFinished = true) ∧
  (s.txActive = true → s.txPresent = true) ∧
  s.txBit ≤ s.txTotal ∧ s.txTotal ≤ 9 * s.cfg.maxWordlen ∧ s.txTotal % 9 = 0 ∧
  (s.txActive = true → 0 < s.txTotal) ∧
  s.txCount ≤ max (max s.cfg.nStart s.cfg.nZero) (max s.cfg.nOne s.cfg.nSilence) ∧
  (s.txActive = true → s.txStarted = false → s.txPhase = .silence ∧ s.txCount = 0 ∧ s.txBit = 0)

/-- The outputs and the gate (R176, and (I-b) of R48), where the TX subsystem is present: the carrier is on exactly in
the burst phases of a transmission, the bus is driven from M5 of START_TIMER to the finish, the gate is open from M6 to
the finish. -/
def OutputsOk (s : State) : Prop :=
  (s.txGate = true ↔ s.txActive = true ∧ Micro.openGate ∉ s.micro) ∧
  (s.txPresent = true →
    (s.carrierOut = .on ↔ s.txActive = true ∧ s.txPhase = .burst) ∧
    (s.busEnOut = true ↔ s.txActive = true ∧ Micro.driveBus ∉ s.micro))

/-- The command in progress, if any, is part way through one of the plans of R125, R201, R202 and R203, in the arbiter
state that plan belongs to. -/
def CommandOk (s : State) : Prop :=
  s.micro = [] ∨
  (s.rxPresent = true ∧ s.micro <:+ rxEnable true ∧ s.txActive = false ∧ s.txFinished = false) ∨
  (s.micro <:+ startTimer s.rxPresent ∧ Micro.openGate ∈ s.micro ∧ s.txActive = true) ∨
  (s.micro <:+ reenable s.rxPresent ∧ Micro.clearFinished ∈ s.micro ∧ s.txFinished = true) ∨
  ∃ n b, n < s.cfg.rxCap ∧ s.micro <:+ [.decode n b, .captureReset, .checkFinished]

/-- The arbiter invariant, (I-c) of R48 and R208: detached from START_TIMER's detach micro-step until the attach
micro-step of the deferred RX_ENABLE. -/
def ArbiterOk (s : State) : Prop :=
  (s.txActive = true → Micro.detach ∉ s.micro → s.attached = false) ∧
  (s.txFinished = true → (Micro.attach ∈ s.micro ∨ Micro.clearFinished ∉ s.micro) → s.attached = false)

/-- What holds in every state reachable from SETUP, for every choice of events and gaps. Before SETUP nothing is said
of the elements the spec leaves unspecified there (R22), only that no command is in progress. -/
def Inv (s : State) : Prop :=
  s.cfg.Ok ∧
  (s.initialized = false → s.micro = []) ∧
  (s.initialized = true →
    BuffersOk s ∧ ReceiveOk s ∧ FrameOk s ∧ TransmitOk s ∧ OutputsOk s ∧ CommandOk s ∧ ArbiterOk s)

/-- Perform operations one after another, each to the next state, with no record taken from the inbox. -/
def execAll : List Instr → State → Host.Outcome State Fault Refusal
  | [], s => .next s
  | i :: is, s =>
    match exec i s with
    | .next t => execAll is t
    | .fault f => .fault f
    | .refused r => .refused r

/-- The edges of a burst: one now, then one after each gap (R101, R114). -/
def edgeTrain : Nat → List Nat → List Instr
  | _, [] => [.edge]
  | now, g :: gs => .edge :: .time (now + g) :: edgeTrain (now + g) gs

/-- The number of the finish tick of a transmission of the bits `v`, counting its first tick as tick 0 (R175): `F`. -/
def finishTick (p : Params) (v : List Bool) : Nat :=
  (p.nStart + 1) + (v.map fun b => (p.nSilence + 1) + ((if b then p.nOne else p.nZero) + 1)).sum

/-- The bits of the transmission held in `TXW`, in bus order (R83, R161). -/
def txBits (txw : List Word9) (total : Nat) : List Bool := (List.range total).map (txBitOf txw)

/-- The bursts of the frame of `b` (R84) as the loopback channel delivers them (95_test_vectors.md 1.2): a burst loaded
with `L` is received as `L + 1` pulses. -/
def frameCounts (p : Params) (b : List Byte) : List Count :=
  BitVec.ofNat 16 (p.nStart + 1) ::
    (txBits (txWords b) ((b.length + 1) * 9)).map fun v => BitVec.ofNat 16 ((if v then p.nOne else p.nZero) + 1)

/-- The pulse counts of the frame of `b`, as naturals (R84, R175): a burst loaded with `L` is received as `L + 1`
edges. -/
def frameEdges (p : Params) (b : List Byte) : List Nat :=
  (p.nStart + 1) ::
    (txBits (txWords b) ((b.length + 1) * 9)).map fun v => (if v then p.nOne else p.nZero) + 1

/-- The steps that deliver bursts of the given pulse counts (R101 to R103): edges 2 apart, the burst-end alarm `T_BIT`
after the last, the next burst `gap` after it; after the last burst the frame-end alarm. -/
def receiveSteps (p : Params) (gap : Nat) : Nat → List Nat → List Instr
  | _, [] => []
  | now, c :: cs =>
    let last := now + 2 * (c - 1)
    edgeTrain now (List.replicate (c - 1) 2) ++ [.time (last + p.tBit), .burstAlarm] ++
      if cs = [] then [.time (last + p.tFrame), .frameAlarm]
      else .time (last + gap) :: receiveSteps p gap (last + gap) cs

/-- What an accepted SEND of `b` leaves where no event comes into its gaps (R164, then R201): the packed words and the
TX state, the arbiter Transmitting, the bus driven, the gate open, and, where there is an RX pin, the handler detached
and the capture reset. `rest` is what `TXW` holds above the packed words, which is unspecified (U4; log 18), and `k` the
model's count of free values. -/
def afterSend (b : List Byte) (rest : List Word9) (k : Nat) (s : State) : State :=
  let sent :=
    { s with
      txw := b.map packWord ++ [packWord (checksum b)] ++ rest
      txTotal := (b.length + 1) * 9
      txBit := 0
      txStarted := false
      txPhase := .silence
      txCount := 0
      txActive := true
      busEnOut := true
      txGate := true
      micro := []
      trace := .outcome .ok :: s.trace
      freeCount := k }
  if s.rxPresent then
    { sent with
      attached := false
      edgeCount := 0
      burstIdx := 0
      bursts := List.replicate s.cfg.rxCap 0
      receiving := false
      frameEnd := false
      burstArmed := s.burstArmed && !s.cfg.resetDisarmsAlarms
      frameArmed := s.frameArmed && !s.cfg.resetDisarmsAlarms }
  else sent

/-- The interrupt-role events that may run between RX_DISABLE's micro-steps with an effect on the capture (R127). -/
def captureEvents : List Instr := [.edge, .burstAlarm, .frameAlarm]

/-- `t` is the end of a run of RX_DISABLE from `s` (R126, R127) with its entry reset X1 or without: events, X2, events,
X3. Every event happens: none leaves a label on the trace (log 6). -/
def DisableEnds (entry : Bool) (s t : State) : Prop :=
  ∃ (before between : List Instr) (a b : State),
    (∀ i ∈ before ++ between, i ∈ captureEvents) ∧
    execAll before (if entry then captureReset s else s) = .next a ∧
    execAll between (detach a) = .next b ∧ t = captureReset b ∧ t.trace = s.trace

/-- The operation is a SEND or a SEND_HEX. -/
def isSend : Instr → Bool
  | .send _ => true
  | .sendHex _ => true
  | _ => false

/-- The operation is a SETUP. -/
def isSetup : Instr → Bool
  | .setup _ _ _ => true
  | _ => false

/-- The operation is a TIME. -/
def isTime : Instr → Bool
  | .time _ => true
  | _ => false

end Sys2Proof.Machine
end

