-- ==== Sys2Proof/Certificates/Slice0/Obligations.lean ====
section
/-! DEFINITION. The statements for the provers, in the order of the spec's files. `s` is any state, and so carries any
parameters (`s.cfg`); a hypothesis of R8 is named where one is needed. "With no event in the gaps" is `s.sched = []`. -/

open Sys2Proof Sys2Proof.Machine

/-! ### Operation records (30_encoding.md) -/

/-- R92 to R96: decoding the record of a well-formed operation gives it back, and leaves what follows it. -/
def Obligations.DecodeInvertsEncode : Prop :=
  ∀ (i : Instr) (r : List Byte), i.wf = true → decode (encode i ++ r) = some (i, r)

/-- R90 to R97, the other direction: what decodes is a well-formed operation's record and nothing else. -/
def Obligations.DecodeAcceptsOnlyRecords : Prop :=
  ∀ (bs : List Byte) (i : Instr) (r : List Byte),
    decode bs = some (i, r) → i.wf = true ∧ bs = encode i ++ r

/-- R97: a reserved opcode, a SETUP mask with a reserved bit and a record cut short are each refused by the decoder,
and a step that meets such a record refuses it with RF_RESERVED. Where a step meets one, between commands or in a gap
given to an event, at the head of the inbox, is the model's choice (log 8, log 10). -/
def Obligations.ReservedRecordsAreRefused : Prop :=
  (∀ (b : Byte) (r : List Byte),
    b.toNat ∉ [0x01, 0x02, 0x03, 0x04, 0x10, 0x11, 0x12, 0x13, 0x14, 0x15, 0x20] → decode (b :: r) = none) ∧
  (∀ (m : Byte) (r : List Byte), 8 ≤ m.toNat → decode (0x10 :: m :: r) = none) ∧
  (∀ (i : Instr) (k : Nat), i.wf = true → k < (encode i).length → decode ((encode i).take k) = none) ∧
  (∀ s : State, (s.micro = [] ∨ ∃ ts, s.sched = .event :: ts) → s.inbox ≠ [] → decode s.inbox = none →
    step s = .refused .reserved)

/-- R91 to R96 on records written out byte by byte: V-ENC-1 to V-ENC-9 and V-ENC-14 of 95_test_vectors.md, and `10 03`
of V-ARB-1. -/
def Obligations.SpecRecordsDecode : Prop :=
  decode [0x01] = some (.edge, []) ∧ decode [0x02] = some (.burstAlarm, []) ∧
  decode [0x03] = some (.frameAlarm, []) ∧ decode [0x04] = some (.txTick, []) ∧
  decode [0x10, 0x07] = some (.setup true true true, []) ∧ decode [0x10, 0x03] = some (.setup true true false, []) ∧
  decode [0x11] = some (.service, []) ∧ decode [0x12] = some (.read, []) ∧ decode [0x15] = some (.active, []) ∧
  decode [0x13, 0x02, 0x00, 0x01, 0x02] = some (.send [0x01, 0x02], []) ∧
  decode [0x13, 0x00, 0x00] = some (.send [], []) ∧
  decode [0x14, 0x04, 0x00, 0x41, 0x31, 0x42, 0x32] = some (.sendHex [0x41, 0x31, 0x42, 0x32], []) ∧
  decode [0x14, 0x03, 0x00, 0x41, 0x31, 0x42] = some (.sendHex [0x41, 0x31, 0x42], []) ∧
  decode [0x20, 0x64, 0, 0, 0, 0, 0, 0, 0] = some (.time 100, []) ∧
  decode [0x20, 0x88, 0x13, 0, 0, 0, 0, 0, 0] = some (.time 5000, [])

/-! ### The step and its gaps (20_memory.md) -/

/-- R66, R13, with the model's `inbox` and `sched` as the environment's choice (log 7, log 8): with no command in
progress the step runs the operation its inbox begins with; in a gap given to an event it runs that event; a host
command is not begun in a gap; otherwise the command goes on. -/
def Obligations.StepRunsTheDecodedOperation : Prop :=
  ∀ (s : State) (i : Instr) (r : List Byte), decode s.inbox = some (i, r) →
    (s.micro = [] → step s = exec i { s with inbox := r }) ∧
    (∀ ts, s.micro ≠ [] → s.sched = .event :: ts → i.role ≠ .service →
      step s = exec i { s with sched := ts, inbox := r }) ∧
    (∀ ts, s.micro ≠ [] → s.sched = .event :: ts → i.role = .service →
      step s = .next (resume { s with sched := ts })) ∧
    (s.micro ≠ [] → (∀ ts, s.sched ≠ .event :: ts) → step s = .next (resume s))

/-- R12, R66: a gap given to an event stops the command before its next micro-step, and a command that has one turn
runs exactly one micro-step. So every interleaving of a command's micro-steps with events is a run (log 8). -/
def Obligations.EveryGapIsOpenToEvents : Prop :=
  ∀ (s : State) (m : Micro) (ms : List Micro) (ts : List Turn), s.micro = m :: ms →
    (s.sched = .event :: ts → resume s = s) ∧
    (s.sched = .service :: .event :: ts →
      resume s = runMicro m { s with micro := ms, sched := .event :: ts })

/-- R220, R223: a step answers a next state or one of R223's four refusals, whatever the state. After SETUP nothing but
a second SETUP, a SEND without a TX subsystem and bytes that spell no operation stops the block: any other operation the
inbox begins with runs, or waits while the command in progress goes on; and with an empty inbox a step always answers a
next state (log 7, log 8). -/
def Obligations.EveryStepAnswersNextOrARefusalOfTheTable : Prop :=
  (∀ s : State, (∃ t, step s = .next t) ∨ step s = .refused .notSetup ∨ step s = .refused .resetup ∨
    step s = .refused .txAbsent ∨ step s = .refused .reserved) ∧
  (∀ (s : State) (i : Instr) (r : List Byte), s.initialized = true → decode s.inbox = some (i, r) →
    isSetup i = false → (isSend i = true → s.txPresent = true) → ∃ t, step s = .next t) ∧
  (∀ s : State, s.inbox = [] → ∃ t, step s = .next t)

/-- R223: the four refusals, and no other. An operation is refused exactly on the condition of its row, and a step
answers RF_RESERVED exactly where the bytes it has to run spell no operation: when a step has bytes to run is the
model's choice (log 7, log 8). Before SETUP, EDGE and TIME have no effect, and no alarm and no tick is enabled. -/
def Obligations.RefusalsAreTheFourOfTheTable : Prop :=
  (∀ (i : Instr) (s : State) (rf : Refusal), exec i s = .refused rf ↔
    (rf = .notSetup ∧ s.initialized = false ∧ (i = .service ∨ i = .read ∨ isSend i = true ∨ i = .active)) ∨
    (rf = .resetup ∧ s.initialized = true ∧ isSetup i = true) ∨
    (rf = .txAbsent ∧ s.initialized = true ∧ s.txPresent = false ∧ isSend i = true)) ∧
  (∀ s : State, step s = .refused .reserved ↔
    (s.micro = [] ∨ ∃ ts, s.sched = .event :: ts) ∧ s.inbox ≠ [] ∧ decode s.inbox = none) ∧
  (∀ s : State, s.initialized = false →
    exec .edge s = .next s ∧ (∀ t, exec (.time t) s = .next s) ∧
    burstEnabled s = false ∧ frameEnabled s = false ∧ tickEnabled s = false)

/-! ### Events and their enabling (60_exceptions.md) -/

/-- R228, R233: the enabling condition of each event, in terms of the state's elements. -/
def Obligations.EnablingConditionsAsStated : Prop :=
  ∀ (s : State) (t : Nat), s.initialized = true →
    (burstEnabled s = true ↔ s.burstArmed = true ∧ s.burstDeadline ≤ s.now) ∧
    (frameEnabled s = true ↔ (s.frameArmed = true ∧ s.frameDeadline ≤ s.now) ∧
      ¬(burstEnabled s = true ∧ s.burstDeadline ≤ s.frameDeadline)) ∧
    (tickEnabled s = true ↔ s.txPresent = true ∧ s.txGate = true) ∧
    (edgeEnabled s = true ↔ burstEnabled s = false ∧ frameEnabled s = false) ∧
    (timeEnabled t s = true ↔ s.now ≤ t ∧ ¬(s.burstArmed = true ∧ s.burstDeadline < t) ∧
      ¬(s.frameArmed = true ∧ s.frameDeadline < t))

/-- R233, R228: an event that is not enabled does not happen. That its record leaves a label on the trace is the
model's choice (log 6). -/
def Obligations.EventsNotEnabledDoNotHappen : Prop :=
  ∀ (s : State) (t : Nat),
    (s.initialized = true → edgeEnabled s = false →
      exec .edge s = .next { s with trace := .notEnabled .edge :: s.trace }) ∧
    (burstEnabled s = false → exec .burstAlarm s = .next { s with trace := .notEnabled .burstAlarm :: s.trace }) ∧
    (frameEnabled s = false → exec .frameAlarm s = .next { s with trace := .notEnabled .frameAlarm :: s.trace }) ∧
    (tickEnabled s = false → exec .txTick s = .next { s with trace := .notEnabled .txTick :: s.trace }) ∧
    (s.initialized = true → timeEnabled t s = false →
      exec (.time t) s = .next { s with trace := .notEnabled .time :: s.trace })

/-- R229 (a) and (b), in the states R48's invariants leave: a due alarm goes before any EDGE, TIME and the later alarm;
and of two armed alarms the burst-end alarm has the earlier deadline. -/
def Obligations.DueAlarmsGoFirst : Prop :=
  ∀ s : State, Inv s → s.initialized = true →
    (s.burstArmed = true → s.frameArmed = true ∧ s.burstDeadline < s.frameDeadline) ∧
    (s.burstArmed = true → s.burstDeadline ≤ s.now →
      edgeEnabled s = false ∧ frameEnabled s = false ∧ burstEnabled s = true ∧
      ∀ t, s.now < t → timeEnabled t s = false) ∧
    (s.frameArmed = true → s.frameDeadline ≤ s.now →
      edgeEnabled s = false ∧ burstEnabled s = false ∧ frameEnabled s = true ∧
      ∀ t, s.now < t → timeEnabled t s = false)

/-- R233: where it is enabled, TIME moves `now` and nothing else; a TIME backwards or past an armed deadline does not
happen, and before SETUP TIME has no effect. (`tr`: that such a record may leave a label on the trace is the model's
choice, log 6.) -/
def Obligations.TimeMovesNowOnly : Prop :=
  ∀ (s : State) (t : Nat),
    (s.initialized = false → exec (.time t) s = .next s) ∧
    (s.initialized = true → s.now ≤ t → (s.burstArmed = true → t ≤ s.burstDeadline) →
      (s.frameArmed = true → t ≤ s.frameDeadline) → exec (.time t) s = .next { s with now := t }) ∧
    (s.initialized = true →
      t < s.now ∨ (s.burstArmed = true ∧ s.burstDeadline < t) ∨ (s.frameArmed = true ∧ s.frameDeadline < t) →
      ∃ tr, exec (.time t) s = .next { s with trace := tr })

/-! ### The Burst Capture Engine (40_rx_capture.md) -/

/-- R110: EDGE marks the line, counts modulo 2^16 and re-arms both alarms; it is lost where no handler is attached, and
has no effect before SETUP. Nothing else changes. While an alarm is due it does not happen (`tr`: log 6). -/
def Obligations.EdgeCountsAndRearmsBothAlarms : Prop :=
  ∀ s : State,
    (s.initialized = false → exec .edge s = .next s) ∧
    (s.initialized = true → ¬(s.burstArmed = true ∧ s.burstDeadline ≤ s.now) →
      ¬(s.frameArmed = true ∧ s.frameDeadline ≤ s.now) →
      (s.rxPresent = true → s.attached = true →
        exec .edge s = .next { s with
          receiving := true
          edgeCount := BitVec.ofNat 16 (s.edgeCount.toNat + 1)
          burstDeadline := s.now + s.cfg.tBit
          burstArmed := true
          frameDeadline := s.now + s.cfg.tFrame
          frameArmed := true }) ∧
      (s.rxPresent = false ∨ s.attached = false → exec .edge s = .next s)) ∧
    (s.initialized = true →
      (s.burstArmed = true ∧ s.burstDeadline ≤ s.now) ∨ (s.frameArmed = true ∧ s.frameDeadline ≤ s.now) →
      ∃ tr, exec .edge s = .next { s with trace := tr })

/-- R113 with R115: BURST_ALARM stores the count at the current index, clears the counter, advances the index with
wrap-around and disarms itself; nothing else changes. Before its deadline, or disarmed, it does not happen (`tr`: log
6), and while it is armed no TIME passes the deadline. -/
def Obligations.BurstAlarmStoresAndAdvances : Prop :=
  ∀ s : State,
    (s.initialized = true → s.burstArmed = true → s.burstDeadline ≤ s.now →
      exec .burstAlarm s = .next { s with
        bursts := s.bursts.set s.burstIdx s.edgeCount
        edgeCount := 0
        burstIdx := if s.burstIdx + 1 = 9 * s.cfg.maxWordlen then 0 else s.burstIdx + 1
        burstArmed := false }) ∧
    (¬(s.initialized = true ∧ s.burstArmed = true ∧ s.burstDeadline ≤ s.now) →
      ∃ tr, exec .burstAlarm s = .next { s with trace := tr }) ∧
    (s.initialized = true → s.burstArmed = true → ∀ t, s.burstDeadline < t →
      ∃ tr, exec (.time t) s = .next { s with trace := tr })

/-- R117: FRAME_ALARM marks the frame boundary and disarms itself; nothing else changes. Before its deadline, disarmed,
or where BURST_ALARM goes first, it does not happen (`tr`: log 6), and while it is armed no TIME passes the deadline.
BURST_ALARM goes first with the earlier or the same deadline, as R228 and R229 (b) say (DEDUCED, log 12). -/
def Obligations.FrameAlarmMarksTheBoundary : Prop :=
  ∀ s : State,
    (s.initialized = true → s.frameArmed = true → s.frameDeadline ≤ s.now →
      ¬(s.burstArmed = true ∧ s.burstDeadline ≤ s.now ∧ s.burstDeadline ≤ s.frameDeadline) →
      exec .frameAlarm s = .next { s with receiving := false, frameEnd := true, frameArmed := false }) ∧
    (¬(s.initialized = true ∧ s.frameArmed = true ∧ s.frameDeadline ≤ s.now) ∨
        (s.burstArmed = true ∧ s.burstDeadline ≤ s.now ∧ s.burstDeadline ≤ s.frameDeadline) →
      ∃ tr, exec .frameAlarm s = .next { s with trace := tr }) ∧
    (s.initialized = true → s.frameArmed = true → ∀ t, s.frameDeadline < t →
      ∃ tr, exec (.time t) s = .next { s with trace := tr })

/-- R118: when FRAME_ALARM fires the last burst has been stored, and it fires once: no further FRAME_ALARM is enabled
before an EDGE re-arms it, however far time advances. -/
def Obligations.LastBurstIsStoredBeforeFrameEnd : Prop :=
  ∀ s : State, Inv s → frameEnabled s = true →
    s.burstArmed = false ∧ s.edgeCount = 0 ∧
    ∃ t, exec .frameAlarm s = .next t ∧ frameEnabled t = false ∧
      ∀ u v, exec (.time u) t = .next v → frameEnabled v = false ∧ burstEnabled v = false

/-- R114, R101: a train of edges with gaps below `T_BIT`, then a silence of `T_BIT`, stores exactly one entry, the
number of its edges: for the first burst of a frame, and for a later one, where the frame-end alarm is still armed. -/
def Obligations.EdgeTrainGivesOneBurst : Prop :=
  ∀ (s : State) (gaps : List Nat), s.initialized = true → s.rxPresent = true → s.attached = true →
    s.burstArmed = false → (s.frameArmed = true → s.now < s.frameDeadline) → s.edgeCount = 0 → s.cfg.Ok →
    (∀ g ∈ gaps, g < s.cfg.tBit) →
    ∃ t, execAll (edgeTrain s.now gaps ++ [.time (s.now + gaps.sum + s.cfg.tBit), .burstAlarm]) s = .next t ∧
      t.bursts = s.bursts.set s.burstIdx (BitVec.ofNat 16 (gaps.length + 1)) ∧
      t.burstIdx = (if s.burstIdx + 1 = s.cfg.rxCap then 0 else s.burstIdx + 1) ∧ t.edgeCount = 0 ∧
      t.burstArmed = false ∧ t.receiving = true ∧ t.frameEnd = s.frameEnd ∧ t.frameArmed = true ∧
      t.frameDeadline = s.now + gaps.sum + s.cfg.tFrame ∧ t.now = s.now + gaps.sum + s.cfg.tBit ∧
      t.trace = s.trace

/-- R120, R121: what CAPTURE_RESET writes; everything else, named in R121 or not, it leaves alone. -/
def Obligations.CaptureResetWritesTheCaptureOnly : Prop :=
  ∀ s : State, captureReset s = { s with
    edgeCount := 0
    burstIdx := 0
    bursts := List.replicate (9 * s.cfg.maxWordlen) 0
    receiving := false
    frameEnd := false
    burstArmed := if s.cfg.resetDisarmsAlarms then false else s.burstArmed
    frameArmed := if s.cfg.resetDisarmsAlarms then false else s.frameArmed }

/-- R122, R266, the alarms stale after a CAPTURE_RESET. Where a reset does not disarm them, a stale BURST_ALARM stores 0
at `BURSTS[0]`, and a stale FRAME_ALARM, come to by TIME, sets `frame_end`; the next SERVICE decodes the one burst, or,
where the burst-end alarm was not armed, none, and reports an invalid frame. V-RX-9 and V-RX-10 are the two cases. Where
a reset does disarm them, neither is enabled, at that time or a later one. -/
def Obligations.StaleAlarmsFireIntoTheClearedCapture : Prop :=
  ∀ s : State, s.cfg.Ok → s.initialized = true →
    (s.cfg.resetDisarmsAlarms = false →
      (s.burstArmed = true → s.burstDeadline ≤ s.now →
        ∃ t, exec .burstAlarm (captureReset s) = .next t ∧ t.bursts.take 1 = [0] ∧ t.burstIdx = 1 ∧ t.edgeCount = 0 ∧
          (decodeFrame s.cfg t.burstIdx (t.bursts.take 1)).valid = false) ∧
      (s.burstArmed = true → s.frameArmed = true → s.now ≤ s.burstDeadline → s.burstDeadline ≤ s.frameDeadline →
        ∃ t, execAll [.time s.burstDeadline, .burstAlarm, .time s.frameDeadline, .frameAlarm] (captureReset s) =
            .next t ∧
          t.bursts.take 1 = [0] ∧ t.burstIdx = 1 ∧ t.edgeCount = 0 ∧ t.burstArmed = false ∧ t.frameArmed = false ∧
          t.frameEnd = true ∧ t.receiving = false ∧ t.now = s.frameDeadline ∧ t.attached = s.attached ∧
          t.trace = s.trace ∧
          (s.rxPresent = true → s.sched = [] →
            ∃ u, exec .service t = .next u ∧ u.frame.valid = false ∧ u.frame.len = 0 ∧ u.frameReady = true)) ∧
      (s.burstArmed = false → s.frameArmed = true → s.now ≤ s.frameDeadline →
        ∃ t, execAll [.time s.frameDeadline, .frameAlarm] (captureReset s) = .next t ∧
          t.burstIdx = 0 ∧ t.edgeCount = 0 ∧ t.frameArmed = false ∧ t.frameEnd = true ∧ t.receiving = false ∧
          t.now = s.frameDeadline ∧ t.attached = s.attached ∧ t.trace = s.trace ∧
          (s.rxPresent = true → s.sched = [] →
            ∃ u, exec .service t = .next u ∧ u.frame.valid = false ∧ u.frame.len = 0 ∧ u.frameReady = true ∧
              u.trace = .outcome .decStart :: s.trace))) ∧
    (s.cfg.resetDisarmsAlarms = true → ∀ t, s.now ≤ t →
      ∃ u, exec (.time t) (captureReset s) = .next u ∧ u.now = t ∧ burstEnabled u = false ∧ frameEnabled u = false)

/-- R127, for a run without events: the entry reset of RX_DISABLE makes no difference to its end state. -/
def Obligations.DisableEntryResetMakesNoDifference : Prop :=
  ∀ s : State, captureReset (detach (captureReset s)) = captureReset (detach s)

/-- R127 with the events it names (EDGE, BURST_ALARM, FRAME_ALARM) between the micro-steps: every run of X1; X2; X3 ends
in the same state as some run of X2; X3 alone, and the reverse also holds. -/
def Obligations.DisableEndsAlikeWithoutItsEntryReset : Prop :=
  ∀ s t : State, DisableEnds true s t ↔ DisableEnds false s t

/-! ### The Frame Decoder (41_frame_decoder.md) -/

/-- R140, R82, R160: the packed word has the byte in its low bits, the parity bit at bit 8, and an odd number of 1
bits. -/
def Obligations.PackedWordHasOddParity : Prop :=
  ∀ d : Byte, (packWord d).setWidth 8 = d ∧ popcount (packWord d) % 2 = 1 ∧
    ((packWord d).getLsbD 8).toNat = parity d ∧ parity d = 1 - popcount d % 2

/-- R141: the checksum is the sum of the bytes modulo 256, whatever their order. -/
def Obligations.ChecksumIsTheSumModulo256 : Prop :=
  (∀ b : List Byte, (checksum b).toNat = (b.map BitVec.toNat).sum % 256) ∧
  (∀ b c : List Byte, b.Perm c → checksum b = checksum c)

/-- R142, with the model's plain-data form of CLASSIFY (log 2): every total function from a 16-bit count to a bit is
the classifier of some parameter value. -/
def Obligations.EveryClassifierIsAParameter : Prop :=
  ∀ f : Count → Bool, ∃ l : List Nat, ∀ (p : Params) (c : Count), classify { p with classifyAt := l } c = f c

/-- R145: DECODE, failure by failure in the stated order, then the result. `w j` is any word whose bit `i` is the class
of burst `1 + 9*j + i`. A failure has `valid = 0` and no bytes. -/
def Obligations.DecodeByItsRule : Prop :=
  ∀ (p : Params) (N : Nat) (B : List Count),
    ((N = 0 ∨ ¬(p.startMin ≤ (B.getD 0 0).toNat ∧ (B.getD 0 0).toNat ≤ p.startMax)) →
      decodeFrame p N B = .failed .decStart) ∧
    (N ≠ 0 → p.startMin ≤ (B.getD 0 0).toNat → (B.getD 0 0).toNat ≤ p.startMax →
      ((∀ k, 1 ≤ k → N ≠ 1 + 9 * k) → decodeFrame p N B = .failed .decLength) ∧
      (∀ (k : Nat) (w : Nat → Word9), 1 ≤ k → N = 1 + 9 * k →
        (∀ j i, j < k → i < 9 → (w j).getLsbD i = classify p (B.getD (1 + 9 * j + i) 0)) →
        ((∃ j, j < k ∧ popcount (w j) % 2 = 0) → decodeFrame p N B = .failed .decParity) ∧
        ((∀ j, j < k → popcount (w j) % 2 = 1) →
          ((w (k - 1)).setWidth 8 ≠ checksum ((List.range (k - 1)).map fun j => (w j).setWidth 8) →
            decodeFrame p N B = .failed .decChecksum) ∧
          ((w (k - 1)).setWidth 8 = checksum ((List.range (k - 1)).map fun j => (w j).setWidth 8) →
            decodeFrame p N B = .ok ((List.range (k - 1)).map fun j => (w j).setWidth 8))))) ∧
    (∀ c, (DecodeResult.failed c).valid = false ∧ (DecodeResult.failed c).data = [] ∧
      (DecodeResult.failed c).code = c) ∧
    ∀ d, (DecodeResult.ok d).valid = true ∧ (DecodeResult.ok d).data = d ∧ (DecodeResult.ok d).code = .ok

/-- R84 with R145 (C1, W1, W7): the bursts of the frame of `b`, received as the loopback channel delivers them, decode
to `b`, where the sender's counts suit the receiver's thresholds (hypotheses RT-a and RT-b of 95_test_vectors.md). -/
def Obligations.DecodeOfSentFrameIsTheBytes : Prop :=
  ∀ (p : Params) (b : List Byte), startOk p (BitVec.ofNat 16 (p.nStart + 1)) = true →
    classify p (BitVec.ofNat 16 (p.nZero + 1)) = false → classify p (BitVec.ofNat 16 (p.nOne + 1)) = true →
    (frameCounts p b).length = 1 + 9 * (b.length + 1) ∧
    decodeFrame p (1 + 9 * (b.length + 1)) (frameCounts p b) = .ok b

/-- R149 (a): in a capture that decodes, a burst of one bit read as the other bit makes the parity fail. -/
def Obligations.OneFlippedBitFailsTheParity : Prop :=
  ∀ (p : Params) (N i : Nat) (B : List Count) (d : List Byte) (c : Count),
    decodeFrame p N B = .ok d → N ≤ B.length → 1 ≤ i → i < N → classify p c ≠ classify p (B.getD i 0) →
    decodeFrame p N (B.set i c) = .failed .decParity

/-- R149 (b): a frame whose checksum word is the correct-parity word of another byte fails with DEC_CHECKSUM. -/
def Obligations.WrongChecksumWordIsFound : Prop :=
  ∀ (p : Params) (B : List Count) (b : List Byte) (x : Byte), x ≠ checksum b → startOk p (B.getD 0 0) = true →
    (∀ j i, j ≤ b.length → i < 9 →
      classify p (B.getD (1 + 9 * j + i) 0) = ((b.map packWord ++ [packWord x]).getD j 0).getLsbD i) →
    decodeFrame p (1 + 9 * (b.length + 1)) B = .failed .decChecksum

/-- R147: fed from the capture, DECODE gives at most `MAX_WORDLEN - 2` bytes. -/
def Obligations.DecodedLengthIsBounded : Prop :=
  ∀ (p : Params) (N : Nat) (B : List Count) (d : List Byte), N ≤ p.rxCap - 1 → decodeFrame p N B = .ok d →
    d.length ≤ p.maxWordlen - 2

/-- R261 (a): the bursts of two well-formed frames captured as one have no legal length. -/
def Obligations.MergedFramesFailTheLength : Prop :=
  ∀ (p : Params) (k l : Nat) (B : List Count), startOk p (B.getD 0 0) = true →
    decodeFrame p ((1 + 9 * k) + (1 + 9 * l)) B = .failed .decLength

/-! ### The Waveform Generator (42_tx_generator.md) -/

/-- R163, R164, R201: a SEND that is neither busy nor oversized ends, with no event in the gaps, in the state
`afterSend`. Everything that state does not name is unchanged. What `TXW` holds above the packed words is unspecified
(U4, D35): the statement says only that it fills the buffer (log 18). -/
def Obligations.SendIsAcceptedAndStarts : Prop :=
  ∀ (b : List Byte) (s : State), s.initialized = true → s.txPresent = true → s.txActive = false →
    s.txFinished = false → b.length ≤ s.cfg.maxWordlen - 1 → s.sched = [] →
    ∃ (rest : List Word9) (k : Nat), rest.length = s.cfg.maxWordlen - (b.length + 1) ∧
      exec (.send b) s = .next (afterSend b rest k s)

/-- R163, R164, R12: for every choice of events in the gaps, an accepted SEND answers the state its first micro-step
leaves, with the micro-steps of START_TIMER run as far as the first gap given to an event; the words are packed and the
transmission is active whatever that choice. What `TXW` holds above the words is unspecified (log 18). -/
def Obligations.SendStartsForEverySchedule : Prop :=
  ∀ (b : List Byte) (s : State), s.initialized = true → s.txPresent = true → s.txActive = false →
    s.txFinished = false → b.length ≤ s.cfg.maxWordlen - 1 →
    ∃ (rest : List Word9) (t : State), exec (.send b) s = .next t ∧ t.txActive = true ∧
      rest.length = s.cfg.maxWordlen - (b.length + 1) ∧
      t.txw = b.map packWord ++ [packWord (checksum b)] ++ rest ∧
      t.txTotal = (b.length + 1) * 9 ∧ t.txBit = 0 ∧ t.txStarted = false ∧ t.txPhase = .silence ∧ t.txCount = 0 ∧
      t.micro <:+ startTimer s.rxPresent ∧ t.now = s.now ∧ t.frame = s.frame ∧ t.frameReady = s.frameReady ∧
      t.carrierOut = s.carrierOut ∧ t.trace = .outcome .ok :: s.trace

/-- R163, R165: the acceptance test of SEND. Before SETUP and without a TX subsystem it is refused; a busy or oversized
SEND changes no element, busy reported before size; any other is accepted. -/
def Obligations.RejectedSendChangesNothing : Prop :=
  ∀ (b : List Byte) (s : State),
    (s.initialized = false → exec (.send b) s = .refused .notSetup) ∧
    (s.initialized = true → s.txPresent = false → exec (.send b) s = .refused .txAbsent) ∧
    (s.initialized = true → s.txPresent = true → s.txActive = true ∨ s.txFinished = true →
      exec (.send b) s = .next { s with trace := .outcome .rejBusy :: s.trace }) ∧
    (s.initialized = true → s.txPresent = true → s.txActive = false → s.txFinished = false →
      (s.cfg.maxWordlen - 1 < b.length →
        exec (.send b) s = .next { s with trace := .outcome .rejSize :: s.trace }) ∧
      (b.length ≤ s.cfg.maxWordlen - 1 →
        ∃ t, exec (.send b) s = .next t ∧ t.txActive = true ∧ t.trace = .outcome .ok :: s.trace))

/-- R166: HEX_DECODE, in the order digit, odd length, length; byte `j` is `16 * hexval(s[2j]) + hexval(s[2j+1])`. The
digits and their values are those of R87. -/
def Obligations.HexDecodeByItsRule : Prop :=
  ∀ (p : Params) (c : List Byte),
    ((∃ x ∈ c, hexVal x = none) → hexDecode p c = .error .rejHexDigit) ∧
    ((∀ x ∈ c, hexVal x ≠ none) →
      (c.length % 2 = 1 → hexDecode p c = .error .rejHexOdd) ∧
      (c.length % 2 = 0 → p.maxWordlen < c.length / 2 → hexDecode p c = .error .rejHexLen) ∧
      (c.length % 2 = 0 → c.length / 2 ≤ p.maxWordlen →
        ∃ b, hexDecode p c = .ok b ∧ b.length = c.length / 2 ∧
          ∀ j, j < c.length / 2 → (b.getD j 0).toNat =
            16 * (hexVal (c.getD (2 * j) 0)).getD 0 + (hexVal (c.getD (2 * j + 1) 0)).getD 0)) ∧
    ∀ (x : Byte) (v : Nat), hexVal x = some v ↔
      (v < 10 ∧ x.toNat = 0x30 + v) ∨ (10 ≤ v ∧ v < 16 ∧ (x.toNat = 0x41 + (v - 10) ∨ x.toNat = 0x61 + (v - 10)))

/-- R87, R88: the notification string of bytes that fit the buffer, given back to HEX_DECODE, gives those bytes. -/
def Obligations.HexDecodeInvertsHexEncode : Prop :=
  ∀ (p : Params) (b : List Byte), b.length ≤ p.maxWordlen →
    (hexEncode b).length = 2 * b.length ∧
    hexDecode p ((hexEncode b).map fun c => BitVec.ofNat 8 c.toNat) = .ok b

/-- R167: SEND_HEX of a string that decodes to `b` does what SEND of `b` does, and completes where that completes (with
no event in the gaps, in `afterSend`); a string HEX_DECODE rejects changes no element. Before SETUP and without a TX
subsystem it is refused. -/
def Obligations.SendHexIsSendOfTheBytes : Prop :=
  ∀ (c : List Byte) (s : State),
    (s.initialized = false → exec (.sendHex c) s = .refused .notSetup) ∧
    (s.initialized = true → s.txPresent = false → exec (.sendHex c) s = .refused .txAbsent) ∧
    (s.initialized = true → s.txPresent = true →
      (∀ b, hexDecode s.cfg c = .ok b → exec (.sendHex c) s = exec (.send b) s ∧
        (s.txActive = false → s.txFinished = false → b.length ≤ s.cfg.maxWordlen - 1 → s.sched = [] →
          ∃ (rest : List Word9) (k : Nat), rest.length = s.cfg.maxWordlen - (b.length + 1) ∧
            exec (.sendHex c) s = .next (afterSend b rest k s))) ∧
      (∀ e, hexDecode s.cfg c = .error e →
        exec (.sendHex c) s = .next { s with trace := .outcome e :: s.trace }))

/-- R170 with R172, R173, R174: the branches of a tick before the finish, and the tick with `tx_active = 0`. Nothing
else changes. -/
def Obligations.TickBranchesBeforeTheFinish : Prop :=
  ∀ s : State, s.initialized = true → s.txPresent = true → s.txGate = true →
    (s.txActive = false → exec .txTick s = .next s) ∧
    (s.txActive = true → s.txCount = 0 → s.txBit ≠ s.txTotal → s.txPhase = .burst →
      exec .txTick s = .next { s with txPhase := .silence, carrierOut := .off, txCount := s.cfg.nSilence }) ∧
    (s.txActive = true → s.txCount = 0 → s.txBit ≠ s.txTotal → s.txPhase = .silence → s.txStarted = false →
      exec .txTick s = .next { s with
        txCount := s.cfg.nStart, txStarted := true, txPhase := .burst, carrierOut := .on }) ∧
    (s.txActive = true → s.txCount = 0 → s.txBit ≠ s.txTotal → s.txPhase = .silence → s.txStarted = true →
      exec .txTick s = .next { s with
        txCount := if (s.txw.getD (s.txBit / 9) 0).getLsbD (s.txBit % 9) then s.cfg.nOne else s.cfg.nZero
        txBit := s.txBit + 1, txPhase := .burst, carrierOut := .on }) ∧
    (s.txActive = true → s.txCount ≠ 0 → exec .txTick s = .next { s with txCount := s.txCount - 1 })

/-- R171: the finish tick. `TXW` is unspecified afterwards (R36): the statement says only that it still has
`MAX_WORDLEN` words. The counter of free values is the model's (log 4). No tick touches `attached`. -/
def Obligations.FinishTickDefersTheReenable : Prop :=
  ∀ s : State,
    (s.initialized = true → s.txPresent = true → s.txGate = true → s.txActive = true → s.txCount = 0 →
      s.txBit = s.txTotal →
      ∃ (w : List Word9) (k : Nat), w.length = s.cfg.maxWordlen ∧
        exec .txTick s = .next { s with
          carrierOut := .off, busEnOut := false, txActive := false, txFinished := true, txGate := false
          txw := w, freeCount := k }) ∧
    ∀ t, exec .txTick s = .next t → t.attached = s.attached

/-- R175: a phase loaded with `L` counts down over `L` ticks, in which only the countdown changes; the next transition
is on the tick after. -/
def Obligations.PhaseCountsDownOverItsLoad : Prop :=
  ∀ s : State, s.initialized = true → s.txPresent = true → s.txGate = true → s.txActive = true →
    execAll (List.replicate s.txCount .txTick) s = .next { s with txCount := 0 }

/-- R175: a transmission of the bits held in `TXW` finishes on tick `F`, counting its first tick as tick 0: it is
active after any `k ≤ F` ticks, and the tick after those `F` ticks takes the finish branch. -/
def Obligations.TransmissionFinishesOnTickF : Prop :=
  ∀ s : State, s.initialized = true → s.txPresent = true → s.txGate = true → s.txActive = true →
    s.txStarted = false → s.txPhase = .silence → s.txCount = 0 → s.txBit = 0 → 0 < s.txTotal →
    (∀ k, k ≤ finishTick s.cfg (txBits s.txw s.txTotal) →
      ∃ t, execAll (List.replicate k .txTick) s = .next t ∧ t.txActive = true ∧ t.txFinished = s.txFinished) ∧
    ∃ t, execAll (List.replicate (finishTick s.cfg (txBits s.txw s.txTotal) + 1) .txTick) s = .next t ∧
      t.txActive = false ∧ t.txFinished = true ∧ t.txGate = false ∧ t.carrierOut = .off ∧ t.busEnOut = false ∧
      t.txBit = s.txTotal

/-- R177: in the states R48's invariants leave, no operation but TX_TICK changes the progress of a transmission, nor do
the micro-steps of a command that goes on after a gap. -/
def Obligations.TransmissionIsNotCancelled : Prop :=
  ∀ s : State, Inv s → s.initialized = true → s.txActive = true →
    (∀ i t, i ≠ .txTick → exec i s = .next t → t.txActive = true ∧ t.txBit = s.txBit ∧ t.txCount = s.txCount) ∧
    (resume s).txActive = true ∧ (resume s).txBit = s.txBit ∧ (resume s).txCount = s.txCount

/-! ### The arbiter and the facade (43_arbiter_facade.md) -/

/-- R191: the arbiter's transitions. Of the operations, only an accepted SEND takes Idle to Transmitting, only TX_TICK
Transmitting to PendingReenable, only SERVICE PendingReenable to Idle; no operation makes another transition, and no
other operation writes `tx_active` or `tx_finished`. A command that goes on after a gap makes a transition only where it
is SERVICE's, from PendingReenable to Idle, with M8 or the M4 that leads to it still to run. -/
def Obligations.ArbiterHasThreeTransitions : Prop :=
  ∀ s : State, Inv s → s.initialized = true →
    (∀ i t, exec i s = .next t →
      (arbiter t = arbiter s ∨
        (arbiter s = .idle ∧ arbiter t = .transmitting ∧ isSend i = true) ∨
        (arbiter s = .transmitting ∧ arbiter t = .pendingReenable ∧ i = .txTick) ∨
        (arbiter s = .pendingReenable ∧ arbiter t = .idle ∧ i = .service)) ∧
      (isSend i = false → i ≠ .txTick → i ≠ .service → t.txActive = s.txActive ∧ t.txFinished = s.txFinished)) ∧
    (arbiter (resume s) = arbiter s ∨
      (arbiter s = .pendingReenable ∧ arbiter (resume s) = .idle ∧
        (Micro.clearFinished ∈ s.micro ∨ Micro.checkFinished ∈ s.micro))) ∧
    (resume s).txActive = s.txActive

/-- R202, R203: SERVICE with no event in its gaps. A pending frame is decoded into `FRAME`, `frame_ready` is set and
the capture reset; then, if a transmission has finished, the receiver is enabled again and `tx_finished` cleared.
`FRAME.data` from `len` on is unspecified (R34): the statement says that it holds some bytes (log 3). -/
def Obligations.ServiceDecodesThenReenables : Prop :=
  ∀ s : State, s.initialized = true → s.sched = [] →
    ∃ (rest : List Byte) (k : Nat),
      exec .service s = .next
        (let d := decodeFrame s.cfg s.burstIdx (s.bursts.take s.burstIdx)
         let decoded := if s.rxPresent = true ∧ s.frameEnd = true then
             captureReset { s with
               frame := { valid := d.valid, len := d.data.length, data := d.data ++ rest }
               frameReady := true, freeCount := k, trace := .outcome d.code :: s.trace }
           else s
         let enabled := if s.txFinished = true then
             { (if s.rxPresent = true then { captureReset decoded with attached := true } else decoded) with
               txFinished := false }
           else decoded
         { enabled with micro := [] })

/-- R202, R66, R73: for every choice of events in its gaps SERVICE answers a next state, and the frame pending when its
first micro-step ran is the one it decodes: the snapshot is an operand of the micro-step that decodes it. -/
def Obligations.ServiceStartsForEverySchedule : Prop :=
  ∀ s : State, s.initialized = true →
    exec .service s = .next (resume { s with micro :=
      if s.rxPresent = true ∧ s.frameEnd = true then
        [.decode s.burstIdx (s.bursts.take s.burstIdx), .captureReset, .checkFinished]
      else [.checkFinished] })

/-- R204, with the notification of R206 (the string of `FRAME.data[0 .. len-1]`, for a valid frame, once): READ hands
out the frame and clears `frame_ready`; a second READ returns None. Nothing else changes. Before SETUP it is
refused. -/
def Obligations.ReadHandsOutTheFrameOnce : Prop :=
  ∀ s : State,
    (s.initialized = false → exec .read s = .refused .notSetup) ∧
    (s.initialized = true → s.frameReady = false →
      exec .read s = .next { s with trace := .readResult none :: s.trace }) ∧
    (s.initialized = true → s.frameReady = true →
      ∃ t, exec .read s = .next t ∧
        t = { s with
          frameReady := false
          trace := (if s.frame.valid = true then [.notified (hexEncode (s.frame.data.take s.frame.len))] else []) ++
            .readResult (some { s.frame with data := s.frame.data.take s.frame.len }) :: s.trace } ∧
        exec .read t = .next { t with trace := .readResult none :: t.trace })

/-- Claim RT of 95_test_vectors.md section 1.3, at the receiver: the bursts of the frame of `b`, with at most
`MAX_WORDLEN - 2` bytes, as the loopback channel delivers them, are captured, and SERVICE and READ hand out exactly `b`,
valid, once, with its notification string. The hypotheses are RT-a to RT-e; RT-f is the sequence of operations itself.
All of them happen: the trace has no label of an event not enabled. -/
def Obligations.ReceivedFrameIsReadBack : Prop :=
  ∀ (s : State) (b : List Byte), s.cfg.Ok → BuffersOk s →
    s.initialized = true → s.rxPresent = true → s.attached = true → s.frameEnd = false → s.burstIdx = 0 →
    s.edgeCount = 0 → s.burstArmed = false → s.frameArmed = false → s.txActive = false → s.txFinished = false →
    s.micro = [] → s.sched = [] →
    startOk s.cfg (BitVec.ofNat 16 (s.cfg.nStart + 1)) = true →
    classify s.cfg (BitVec.ofNat 16 (s.cfg.nZero + 1)) = false →
    classify s.cfg (BitVec.ofNat 16 (s.cfg.nOne + 1)) = true →
    2 < s.cfg.tBit → s.cfg.tBit ≤ 2 * (s.cfg.nSilence + 2) → 2 * (s.cfg.nSilence + 2) < s.cfg.tFrame →
    b.length + 2 ≤ s.cfg.maxWordlen →
    ∃ t, execAll (receiveSteps s.cfg (2 * (s.cfg.nSilence + 2)) s.now (frameEdges s.cfg b) ++
        [.service, .read, .read]) s = .next t ∧
      t.trace = [.readResult none, .notified (hexEncode b),
        .readResult (some { valid := true, len := b.length, data := b }), .outcome .ok] ++ s.trace ∧
      t.frameEnd = false ∧ t.burstIdx = 0 ∧ t.frameReady = false ∧ t.receiving = false ∧ t.attached = true

/-- R205: ACTIVE returns whether either direction is busy, and changes nothing. Before SETUP it is refused. -/
def Obligations.ActiveReportsEitherDirection : Prop :=
  ∀ s : State,
    (s.initialized = false → exec .active s = .refused .notSetup) ∧
    (s.initialized = true →
      ∃ busy : Bool, exec .active s = .next { s with trace := .activeResult busy :: s.trace } ∧
        (busy = true ↔ s.receiving = true ∨ s.txActive = true ∨ s.txFinished = true))

/-- R207, R251: SETUP with no event in its gaps. Every element has its value of R251's table, whatever it held before;
the outputs, unspecified where the TX subsystem is absent, are there left as they were (DESIGN CHOICE, log 5); the
configuration faults are recorded as R207 has them (DEDUCED, log 15). -/
def Obligations.SetupGivesEveryElementItsValue : Prop :=
  ∀ (tx en rx : Bool) (s : State), s.initialized = false → s.sched = [] →
    exec (.setup tx en rx) s = .next
      { initialized := true, rxPresent := rx, txPresent := tx && en, now := 0, burstArmed := false
        burstDeadline := 0, frameArmed := false, frameDeadline := 0, attached := rx, receiving := false
        frameEnd := false, edgeCount := 0, burstIdx := 0, bursts := List.replicate (9 * s.cfg.maxWordlen) 0
        frame := { valid := false, len := 0, data := List.replicate s.cfg.maxWordlen 0 }, frameReady := false
        txw := List.replicate s.cfg.maxWordlen 0, txTotal := 0, txBit := 0, txStarted := false, txPhase := .silence
        txCount := 0, txActive := false, txFinished := false, txGate := false
        carrierOut := if tx && en then .off else s.carrierOut, busEnOut := if tx && en then false else s.busEnOut
        cfg := s.cfg, micro := [], inbox := s.inbox, sched := []
        trace := (if tx && en then [] else [.outcome .cfgTxAbsent]) ++
          (if rx then [] else [.outcome .cfgRxAbsent]) ++ s.trace
        freeCount := s.freeCount }

/-! ### Roles, reset and the whole machine (10_state.md, 60_exceptions.md, 70_reset_and_hazards.md) -/

/-- R250: before SETUP, whatever the elements hold: EDGE and TIME change nothing, the other host commands are refused,
no alarm and no tick is enabled, and no operation but SETUP changes an element (a record of an event that is not
enabled leaves its label, log 6). -/
def Obligations.BeforeSetupOnlySetupActs : Prop :=
  ∀ s : State, s.initialized = false →
    exec .edge s = .next s ∧ (∀ t, exec (.time t) s = .next s) ∧
    exec .service s = .refused .notSetup ∧ exec .read s = .refused .notSetup ∧
    exec .active s = .refused .notSetup ∧ (∀ b, exec (.send b) s = .refused .notSetup) ∧
    (∀ c, exec (.sendHex c) s = .refused .notSetup) ∧
    burstEnabled s = false ∧ frameEnabled s = false ∧ tickEnabled s = false ∧
    ∀ i t, isSetup i = false → exec i s = .next t → t = { s with trace := t.trace }

/-- R52: each element is written by no operation other than those of its row (CAPTURE_RESET, RX_ENABLE, RX_DISABLE and
START_TIMER count for the operations they run in). No operation writes the parameters (R7). The same of a command that
goes on after a gap: each element is written only by the micro-steps of its row's procedures that are still to run,
those that SERVICE's M4 may add counting with it. -/
def Obligations.OnlyTheListedOperationsWrite : Prop :=
  (∀ (i : Instr) (s t : State), exec i s = .next t →
    t.cfg = s.cfg ∧
    (isSetup i = false →
      t.initialized = s.initialized ∧ t.rxPresent = s.rxPresent ∧ t.txPresent = s.txPresent ∧
      (isTime i = false → t.now = s.now) ∧
      (i ≠ .edge → t.burstDeadline = s.burstDeadline ∧ t.frameDeadline = s.frameDeadline) ∧
      (i ≠ .service → isSend i = false →
        t.attached = s.attached ∧
        (i ≠ .edge → i ≠ .burstAlarm → t.burstArmed = s.burstArmed ∧ t.edgeCount = s.edgeCount) ∧
        (i ≠ .edge → i ≠ .frameAlarm → t.frameArmed = s.frameArmed ∧ t.receiving = s.receiving) ∧
        (i ≠ .frameAlarm → t.frameEnd = s.frameEnd) ∧
        (i ≠ .burstAlarm → t.burstIdx = s.burstIdx ∧ t.bursts = s.bursts)) ∧
      (i ≠ .service → t.frame = s.frame ∧ (i ≠ .read → t.frameReady = s.frameReady)) ∧
      (isSend i = false → i ≠ .txTick →
        t.txw = s.txw ∧ t.txTotal = s.txTotal ∧ t.txBit = s.txBit ∧ t.txStarted = s.txStarted ∧
        t.txPhase = s.txPhase ∧ t.txCount = s.txCount ∧ t.txActive = s.txActive ∧ t.txGate = s.txGate ∧
        t.busEnOut = s.busEnOut) ∧
      (i ≠ .txTick → i ≠ .service → t.txFinished = s.txFinished) ∧
      (i ≠ .txTick → t.carrierOut = s.carrierOut))) ∧
  ∀ s : State,
    let t := resume s
    (t.cfg = s.cfg ∧ t.initialized = s.initialized ∧ t.rxPresent = s.rxPresent ∧ t.txPresent = s.txPresent ∧
      t.now = s.now ∧ t.burstDeadline = s.burstDeadline ∧ t.frameDeadline = s.frameDeadline ∧ t.txw = s.txw ∧
      t.txTotal = s.txTotal ∧ t.txBit = s.txBit ∧ t.txStarted = s.txStarted ∧ t.txPhase = s.txPhase ∧
      t.txCount = s.txCount ∧ t.txActive = s.txActive ∧ t.carrierOut = s.carrierOut ∧ t.inbox = s.inbox) ∧
    (Micro.driveBus ∉ s.micro → t.busEnOut = s.busEnOut) ∧
    (Micro.openGate ∉ s.micro → t.txGate = s.txGate) ∧
    ((∀ n b, Micro.decode n b ∉ s.micro) → t.frame = s.frame ∧ t.frameReady = s.frameReady) ∧
    (Micro.checkFinished ∉ s.micro →
      (Micro.clearFinished ∉ s.micro → t.txFinished = s.txFinished) ∧
      (Micro.attach ∉ s.micro → Micro.detach ∉ s.micro → t.attached = s.attached) ∧
      (Micro.captureReset ∉ s.micro →
        t.burstArmed = s.burstArmed ∧ t.frameArmed = s.frameArmed ∧ t.receiving = s.receiving ∧
        t.frameEnd = s.frameEnd ∧ t.edgeCount = s.edgeCount ∧ t.burstIdx = s.burstIdx ∧ t.bursts = s.bursts))

/-- R268, R232: an interrupt-role event never attaches or detaches the handler, never clears `frame_ready` or
`tx_finished`, and never touches `FRAME`; it leaves the current command where it is. -/
def Obligations.InterruptRoleKeepsOut : Prop :=
  ∀ (i : Instr) (s t : State), i.role = .interrupt → exec i s = .next t →
    t.attached = s.attached ∧ t.frame = s.frame ∧ t.frameReady = s.frameReady ∧
    (s.txFinished = true → t.txFinished = true) ∧ t.micro = s.micro ∧ t.sched = s.sched ∧ t.inbox = s.inbox

/-- The invariants hold at power-on for every admissible parameter value (R22 gives nothing but `initialized = false`
there, and `Inv` says nothing more of the elements). -/
def Obligations.InvariantHoldsAtPowerOn : Prop :=
  (∀ p : Params, p.Ok → Inv (State.powerOn p)) ∧ Inv State.reset

/-- R48 with R208, R37, R9, R118 and R176: every step, micro-steps and events in gaps included, keeps the
invariants. -/
def Obligations.StepKeepsTheInvariant : Prop :=
  ∀ s t : State, Inv s → step s = .next t → Inv t

/-- R208, the document's arbiter invariant, micro-steps included: from START_TIMER's detach until the attach of
SERVICE's deferred re-enable no handler is attached, and an EDGE changes no element. So the line is never driven and
listened to at the same time (R190): while the bus driver is enabled, at any micro-step of any command, no handler is
attached, and an EDGE changes no element. (Without a TX subsystem `bus_en_out` is unspecified, R46.) -/
def Obligations.NeverDrivenAndListenedTo : Prop :=
  ∀ s : State, Inv s → s.initialized = true →
    ((s.txActive = true ∧ Micro.detach ∉ s.micro) ∨
        (s.txFinished = true ∧ (Micro.attach ∈ s.micro ∨ Micro.clearFinished ∉ s.micro)) →
      s.attached = false ∧ ∀ t, exec .edge s = .next t → t = { s with trace := t.trace }) ∧
    (s.txPresent = true → s.busEnOut = true →
      s.attached = false ∧ ∀ t, exec .edge s = .next t → t = { s with trace := t.trace })
end

