-- ==== Sys2Proof/Laws/State.lean ====
section
/-! SUPPORT. For each named update of State one lemma a field, true by rfl: what the update makes of the field, or that
it leaves it. -/

namespace Sys2Proof.Machine

@[simp] theorem record_initialized (l : Label) (s : State) : (record l s).initialized = s.initialized := rfl
@[simp] theorem record_rxPresent (l : Label) (s : State) : (record l s).rxPresent = s.rxPresent := rfl
@[simp] theorem record_txPresent (l : Label) (s : State) : (record l s).txPresent = s.txPresent := rfl
@[simp] theorem record_now (l : Label) (s : State) : (record l s).now = s.now := rfl
@[simp] theorem record_burstArmed (l : Label) (s : State) : (record l s).burstArmed = s.burstArmed := rfl
@[simp] theorem record_burstDeadline (l : Label) (s : State) : (record l s).burstDeadline = s.burstDeadline := rfl
@[simp] theorem record_frameArmed (l : Label) (s : State) : (record l s).frameArmed = s.frameArmed := rfl
@[simp] theorem record_frameDeadline (l : Label) (s : State) : (record l s).frameDeadline = s.frameDeadline := rfl
@[simp] theorem record_attached (l : Label) (s : State) : (record l s).attached = s.attached := rfl
@[simp] theorem record_receiving (l : Label) (s : State) : (record l s).receiving = s.receiving := rfl
@[simp] theorem record_frameEnd (l : Label) (s : State) : (record l s).frameEnd = s.frameEnd := rfl
@[simp] theorem record_edgeCount (l : Label) (s : State) : (record l s).edgeCount = s.edgeCount := rfl
@[simp] theorem record_burstIdx (l : Label) (s : State) : (record l s).burstIdx = s.burstIdx := rfl
@[simp] theorem record_bursts (l : Label) (s : State) : (record l s).bursts = s.bursts := rfl
@[simp] theorem record_frame (l : Label) (s : State) : (record l s).frame = s.frame := rfl
@[simp] theorem record_frameReady (l : Label) (s : State) : (record l s).frameReady = s.frameReady := rfl
@[simp] theorem record_txw (l : Label) (s : State) : (record l s).txw = s.txw := rfl
@[simp] theorem record_txTotal (l : Label) (s : State) : (record l s).txTotal = s.txTotal := rfl
@[simp] theorem record_txBit (l : Label) (s : State) : (record l s).txBit = s.txBit := rfl
@[simp] theorem record_txStarted (l : Label) (s : State) : (record l s).txStarted = s.txStarted := rfl
@[simp] theorem record_txPhase (l : Label) (s : State) : (record l s).txPhase = s.txPhase := rfl
@[simp] theorem record_txCount (l : Label) (s : State) : (record l s).txCount = s.txCount := rfl
@[simp] theorem record_txActive (l : Label) (s : State) : (record l s).txActive = s.txActive := rfl
@[simp] theorem record_txFinished (l : Label) (s : State) : (record l s).txFinished = s.txFinished := rfl
@[simp] theorem record_txGate (l : Label) (s : State) : (record l s).txGate = s.txGate := rfl
@[simp] theorem record_carrierOut (l : Label) (s : State) : (record l s).carrierOut = s.carrierOut := rfl
@[simp] theorem record_busEnOut (l : Label) (s : State) : (record l s).busEnOut = s.busEnOut := rfl
@[simp] theorem record_cfg (l : Label) (s : State) : (record l s).cfg = s.cfg := rfl
@[simp] theorem record_micro (l : Label) (s : State) : (record l s).micro = s.micro := rfl
@[simp] theorem record_inbox (l : Label) (s : State) : (record l s).inbox = s.inbox := rfl
@[simp] theorem record_sched (l : Label) (s : State) : (record l s).sched = s.sched := rfl
@[simp] theorem record_trace (l : Label) (s : State) : (record l s).trace = l :: s.trace := rfl
@[simp] theorem record_freeCount (l : Label) (s : State) : (record l s).freeCount = s.freeCount := rfl

@[simp] theorem captureReset_initialized (s : State) : (captureReset s).initialized = s.initialized := rfl
@[simp] theorem captureReset_rxPresent (s : State) : (captureReset s).rxPresent = s.rxPresent := rfl
@[simp] theorem captureReset_txPresent (s : State) : (captureReset s).txPresent = s.txPresent := rfl
@[simp] theorem captureReset_now (s : State) : (captureReset s).now = s.now := rfl
@[simp] theorem captureReset_burstArmed (s : State) : (captureReset s).burstArmed = (s.burstArmed && !s.cfg.resetDisarmsAlarms) := rfl
@[simp] theorem captureReset_burstDeadline (s : State) : (captureReset s).burstDeadline = s.burstDeadline := rfl
@[simp] theorem captureReset_frameArmed (s : State) : (captureReset s).frameArmed = (s.frameArmed && !s.cfg.resetDisarmsAlarms) := rfl
@[simp] theorem captureReset_frameDeadline (s : State) : (captureReset s).frameDeadline = s.frameDeadline := rfl
@[simp] theorem captureReset_attached (s : State) : (captureReset s).attached = s.attached := rfl
@[simp] theorem captureReset_receiving (s : State) : (captureReset s).receiving = false := rfl
@[simp] theorem captureReset_frameEnd (s : State) : (captureReset s).frameEnd = false := rfl
@[simp] theorem captureReset_edgeCount (s : State) : (captureReset s).edgeCount = 0 := rfl
@[simp] theorem captureReset_burstIdx (s : State) : (captureReset s).burstIdx = 0 := rfl
@[simp] theorem captureReset_bursts (s : State) : (captureReset s).bursts = List.replicate s.cfg.rxCap 0 := rfl
@[simp] theorem captureReset_frame (s : State) : (captureReset s).frame = s.frame := rfl
@[simp] theorem captureReset_frameReady (s : State) : (captureReset s).frameReady = s.frameReady := rfl
@[simp] theorem captureReset_txw (s : State) : (captureReset s).txw = s.txw := rfl
@[simp] theorem captureReset_txTotal (s : State) : (captureReset s).txTotal = s.txTotal := rfl
@[simp] theorem captureReset_txBit (s : State) : (captureReset s).txBit = s.txBit := rfl
@[simp] theorem captureReset_txStarted (s : State) : (captureReset s).txStarted = s.txStarted := rfl
@[simp] theorem captureReset_txPhase (s : State) : (captureReset s).txPhase = s.txPhase := rfl
@[simp] theorem captureReset_txCount (s : State) : (captureReset s).txCount = s.txCount := rfl
@[simp] theorem captureReset_txActive (s : State) : (captureReset s).txActive = s.txActive := rfl
@[simp] theorem captureReset_txFinished (s : State) : (captureReset s).txFinished = s.txFinished := rfl
@[simp] theorem captureReset_txGate (s : State) : (captureReset s).txGate = s.txGate := rfl
@[simp] theorem captureReset_carrierOut (s : State) : (captureReset s).carrierOut = s.carrierOut := rfl
@[simp] theorem captureReset_busEnOut (s : State) : (captureReset s).busEnOut = s.busEnOut := rfl
@[simp] theorem captureReset_cfg (s : State) : (captureReset s).cfg = s.cfg := rfl
@[simp] theorem captureReset_micro (s : State) : (captureReset s).micro = s.micro := rfl
@[simp] theorem captureReset_inbox (s : State) : (captureReset s).inbox = s.inbox := rfl
@[simp] theorem captureReset_sched (s : State) : (captureReset s).sched = s.sched := rfl
@[simp] theorem captureReset_trace (s : State) : (captureReset s).trace = s.trace := rfl
@[simp] theorem captureReset_freeCount (s : State) : (captureReset s).freeCount = s.freeCount := rfl

@[simp] theorem attach_initialized (s : State) : (attach s).initialized = s.initialized := rfl
@[simp] theorem attach_rxPresent (s : State) : (attach s).rxPresent = s.rxPresent := rfl
@[simp] theorem attach_txPresent (s : State) : (attach s).txPresent = s.txPresent := rfl
@[simp] theorem attach_now (s : State) : (attach s).now = s.now := rfl
@[simp] theorem attach_burstArmed (s : State) : (attach s).burstArmed = s.burstArmed := rfl
@[simp] theorem attach_burstDeadline (s : State) : (attach s).burstDeadline = s.burstDeadline := rfl
@[simp] theorem attach_frameArmed (s : State) : (attach s).frameArmed = s.frameArmed := rfl
@[simp] theorem attach_frameDeadline (s : State) : (attach s).frameDeadline = s.frameDeadline := rfl
@[simp] theorem attach_attached (s : State) : (attach s).attached = true := rfl
@[simp] theorem attach_receiving (s : State) : (attach s).receiving = s.receiving := rfl
@[simp] theorem attach_frameEnd (s : State) : (attach s).frameEnd = s.frameEnd := rfl
@[simp] theorem attach_edgeCount (s : State) : (attach s).edgeCount = s.edgeCount := rfl
@[simp] theorem attach_burstIdx (s : State) : (attach s).burstIdx = s.burstIdx := rfl
@[simp] theorem attach_bursts (s : State) : (attach s).bursts = s.bursts := rfl
@[simp] theorem attach_frame (s : State) : (attach s).frame = s.frame := rfl
@[simp] theorem attach_frameReady (s : State) : (attach s).frameReady = s.frameReady := rfl
@[simp] theorem attach_txw (s : State) : (attach s).txw = s.txw := rfl
@[simp] theorem attach_txTotal (s : State) : (attach s).txTotal = s.txTotal := rfl
@[simp] theorem attach_txBit (s : State) : (attach s).txBit = s.txBit := rfl
@[simp] theorem attach_txStarted (s : State) : (attach s).txStarted = s.txStarted := rfl
@[simp] theorem attach_txPhase (s : State) : (attach s).txPhase = s.txPhase := rfl
@[simp] theorem attach_txCount (s : State) : (attach s).txCount = s.txCount := rfl
@[simp] theorem attach_txActive (s : State) : (attach s).txActive = s.txActive := rfl
@[simp] theorem attach_txFinished (s : State) : (attach s).txFinished = s.txFinished := rfl
@[simp] theorem attach_txGate (s : State) : (attach s).txGate = s.txGate := rfl
@[simp] theorem attach_carrierOut (s : State) : (attach s).carrierOut = s.carrierOut := rfl
@[simp] theorem attach_busEnOut (s : State) : (attach s).busEnOut = s.busEnOut := rfl
@[simp] theorem attach_cfg (s : State) : (attach s).cfg = s.cfg := rfl
@[simp] theorem attach_micro (s : State) : (attach s).micro = s.micro := rfl
@[simp] theorem attach_inbox (s : State) : (attach s).inbox = s.inbox := rfl
@[simp] theorem attach_sched (s : State) : (attach s).sched = s.sched := rfl
@[simp] theorem attach_trace (s : State) : (attach s).trace = s.trace := rfl
@[simp] theorem attach_freeCount (s : State) : (attach s).freeCount = s.freeCount := rfl

@[simp] theorem detach_initialized (s : State) : (detach s).initialized = s.initialized := rfl
@[simp] theorem detach_rxPresent (s : State) : (detach s).rxPresent = s.rxPresent := rfl
@[simp] theorem detach_txPresent (s : State) : (detach s).txPresent = s.txPresent := rfl
@[simp] theorem detach_now (s : State) : (detach s).now = s.now := rfl
@[simp] theorem detach_burstArmed (s : State) : (detach s).burstArmed = s.burstArmed := rfl
@[simp] theorem detach_burstDeadline (s : State) : (detach s).burstDeadline = s.burstDeadline := rfl
@[simp] theorem detach_frameArmed (s : State) : (detach s).frameArmed = s.frameArmed := rfl
@[simp] theorem detach_frameDeadline (s : State) : (detach s).frameDeadline = s.frameDeadline := rfl
@[simp] theorem detach_attached (s : State) : (detach s).attached = false := rfl
@[simp] theorem detach_receiving (s : State) : (detach s).receiving = s.receiving := rfl
@[simp] theorem detach_frameEnd (s : State) : (detach s).frameEnd = s.frameEnd := rfl
@[simp] theorem detach_edgeCount (s : State) : (detach s).edgeCount = s.edgeCount := rfl
@[simp] theorem detach_burstIdx (s : State) : (detach s).burstIdx = s.burstIdx := rfl
@[simp] theorem detach_bursts (s : State) : (detach s).bursts = s.bursts := rfl
@[simp] theorem detach_frame (s : State) : (detach s).frame = s.frame := rfl
@[simp] theorem detach_frameReady (s : State) : (detach s).frameReady = s.frameReady := rfl
@[simp] theorem detach_txw (s : State) : (detach s).txw = s.txw := rfl
@[simp] theorem detach_txTotal (s : State) : (detach s).txTotal = s.txTotal := rfl
@[simp] theorem detach_txBit (s : State) : (detach s).txBit = s.txBit := rfl
@[simp] theorem detach_txStarted (s : State) : (detach s).txStarted = s.txStarted := rfl
@[simp] theorem detach_txPhase (s : State) : (detach s).txPhase = s.txPhase := rfl
@[simp] theorem detach_txCount (s : State) : (detach s).txCount = s.txCount := rfl
@[simp] theorem detach_txActive (s : State) : (detach s).txActive = s.txActive := rfl
@[simp] theorem detach_txFinished (s : State) : (detach s).txFinished = s.txFinished := rfl
@[simp] theorem detach_txGate (s : State) : (detach s).txGate = s.txGate := rfl
@[simp] theorem detach_carrierOut (s : State) : (detach s).carrierOut = s.carrierOut := rfl
@[simp] theorem detach_busEnOut (s : State) : (detach s).busEnOut = s.busEnOut := rfl
@[simp] theorem detach_cfg (s : State) : (detach s).cfg = s.cfg := rfl
@[simp] theorem detach_micro (s : State) : (detach s).micro = s.micro := rfl
@[simp] theorem detach_inbox (s : State) : (detach s).inbox = s.inbox := rfl
@[simp] theorem detach_sched (s : State) : (detach s).sched = s.sched := rfl
@[simp] theorem detach_trace (s : State) : (detach s).trace = s.trace := rfl
@[simp] theorem detach_freeCount (s : State) : (detach s).freeCount = s.freeCount := rfl

@[simp] theorem driveBus_initialized (s : State) : (driveBus s).initialized = s.initialized := rfl
@[simp] theorem driveBus_rxPresent (s : State) : (driveBus s).rxPresent = s.rxPresent := rfl
@[simp] theorem driveBus_txPresent (s : State) : (driveBus s).txPresent = s.txPresent := rfl
@[simp] theorem driveBus_now (s : State) : (driveBus s).now = s.now := rfl
@[simp] theorem driveBus_burstArmed (s : State) : (driveBus s).burstArmed = s.burstArmed := rfl
@[simp] theorem driveBus_burstDeadline (s : State) : (driveBus s).burstDeadline = s.burstDeadline := rfl
@[simp] theorem driveBus_frameArmed (s : State) : (driveBus s).frameArmed = s.frameArmed := rfl
@[simp] theorem driveBus_frameDeadline (s : State) : (driveBus s).frameDeadline = s.frameDeadline := rfl
@[simp] theorem driveBus_attached (s : State) : (driveBus s).attached = s.attached := rfl
@[simp] theorem driveBus_receiving (s : State) : (driveBus s).receiving = s.receiving := rfl
@[simp] theorem driveBus_frameEnd (s : State) : (driveBus s).frameEnd = s.frameEnd := rfl
@[simp] theorem driveBus_edgeCount (s : State) : (driveBus s).edgeCount = s.edgeCount := rfl
@[simp] theorem driveBus_burstIdx (s : State) : (driveBus s).burstIdx = s.burstIdx := rfl
@[simp] theorem driveBus_bursts (s : State) : (driveBus s).bursts = s.bursts := rfl
@[simp] theorem driveBus_frame (s : State) : (driveBus s).frame = s.frame := rfl
@[simp] theorem driveBus_frameReady (s : State) : (driveBus s).frameReady = s.frameReady := rfl
@[simp] theorem driveBus_txw (s : State) : (driveBus s).txw = s.txw := rfl
@[simp] theorem driveBus_txTotal (s : State) : (driveBus s).txTotal = s.txTotal := rfl
@[simp] theorem driveBus_txBit (s : State) : (driveBus s).txBit = s.txBit := rfl
@[simp] theorem driveBus_txStarted (s : State) : (driveBus s).txStarted = s.txStarted := rfl
@[simp] theorem driveBus_txPhase (s : State) : (driveBus s).txPhase = s.txPhase := rfl
@[simp] theorem driveBus_txCount (s : State) : (driveBus s).txCount = s.txCount := rfl
@[simp] theorem driveBus_txActive (s : State) : (driveBus s).txActive = s.txActive := rfl
@[simp] theorem driveBus_txFinished (s : State) : (driveBus s).txFinished = s.txFinished := rfl
@[simp] theorem driveBus_txGate (s : State) : (driveBus s).txGate = s.txGate := rfl
@[simp] theorem driveBus_carrierOut (s : State) : (driveBus s).carrierOut = s.carrierOut := rfl
@[simp] theorem driveBus_busEnOut (s : State) : (driveBus s).busEnOut = true := rfl
@[simp] theorem driveBus_cfg (s : State) : (driveBus s).cfg = s.cfg := rfl
@[simp] theorem driveBus_micro (s : State) : (driveBus s).micro = s.micro := rfl
@[simp] theorem driveBus_inbox (s : State) : (driveBus s).inbox = s.inbox := rfl
@[simp] theorem driveBus_sched (s : State) : (driveBus s).sched = s.sched := rfl
@[simp] theorem driveBus_trace (s : State) : (driveBus s).trace = s.trace := rfl
@[simp] theorem driveBus_freeCount (s : State) : (driveBus s).freeCount = s.freeCount := rfl

@[simp] theorem openGate_initialized (s : State) : (openGate s).initialized = s.initialized := rfl
@[simp] theorem openGate_rxPresent (s : State) : (openGate s).rxPresent = s.rxPresent := rfl
@[simp] theorem openGate_txPresent (s : State) : (openGate s).txPresent = s.txPresent := rfl
@[simp] theorem openGate_now (s : State) : (openGate s).now = s.now := rfl
@[simp] theorem openGate_burstArmed (s : State) : (openGate s).burstArmed = s.burstArmed := rfl
@[simp] theorem openGate_burstDeadline (s : State) : (openGate s).burstDeadline = s.burstDeadline := rfl
@[simp] theorem openGate_frameArmed (s : State) : (openGate s).frameArmed = s.frameArmed := rfl
@[simp] theorem openGate_frameDeadline (s : State) : (openGate s).frameDeadline = s.frameDeadline := rfl
@[simp] theorem openGate_attached (s : State) : (openGate s).attached = s.attached := rfl
@[simp] theorem openGate_receiving (s : State) : (openGate s).receiving = s.receiving := rfl
@[simp] theorem openGate_frameEnd (s : State) : (openGate s).frameEnd = s.frameEnd := rfl
@[simp] theorem openGate_edgeCount (s : State) : (openGate s).edgeCount = s.edgeCount := rfl
@[simp] theorem openGate_burstIdx (s : State) : (openGate s).burstIdx = s.burstIdx := rfl
@[simp] theorem openGate_bursts (s : State) : (openGate s).bursts = s.bursts := rfl
@[simp] theorem openGate_frame (s : State) : (openGate s).frame = s.frame := rfl
@[simp] theorem openGate_frameReady (s : State) : (openGate s).frameReady = s.frameReady := rfl
@[simp] theorem openGate_txw (s : State) : (openGate s).txw = s.txw := rfl
@[simp] theorem openGate_txTotal (s : State) : (openGate s).txTotal = s.txTotal := rfl
@[simp] theorem openGate_txBit (s : State) : (openGate s).txBit = s.txBit := rfl
@[simp] theorem openGate_txStarted (s : State) : (openGate s).txStarted = s.txStarted := rfl
@[simp] theorem openGate_txPhase (s : State) : (openGate s).txPhase = s.txPhase := rfl
@[simp] theorem openGate_txCount (s : State) : (openGate s).txCount = s.txCount := rfl
@[simp] theorem openGate_txActive (s : State) : (openGate s).txActive = s.txActive := rfl
@[simp] theorem openGate_txFinished (s : State) : (openGate s).txFinished = s.txFinished := rfl
@[simp] theorem openGate_txGate (s : State) : (openGate s).txGate = true := rfl
@[simp] theorem openGate_carrierOut (s : State) : (openGate s).carrierOut = s.carrierOut := rfl
@[simp] theorem openGate_busEnOut (s : State) : (openGate s).busEnOut = s.busEnOut := rfl
@[simp] theorem openGate_cfg (s : State) : (openGate s).cfg = s.cfg := rfl
@[simp] theorem openGate_micro (s : State) : (openGate s).micro = s.micro := rfl
@[simp] theorem openGate_inbox (s : State) : (openGate s).inbox = s.inbox := rfl
@[simp] theorem openGate_sched (s : State) : (openGate s).sched = s.sched := rfl
@[simp] theorem openGate_trace (s : State) : (openGate s).trace = s.trace := rfl
@[simp] theorem openGate_freeCount (s : State) : (openGate s).freeCount = s.freeCount := rfl

@[simp] theorem clearFinished_initialized (s : State) : (clearFinished s).initialized = s.initialized := rfl
@[simp] theorem clearFinished_rxPresent (s : State) : (clearFinished s).rxPresent = s.rxPresent := rfl
@[simp] theorem clearFinished_txPresent (s : State) : (clearFinished s).txPresent = s.txPresent := rfl
@[simp] theorem clearFinished_now (s : State) : (clearFinished s).now = s.now := rfl
@[simp] theorem clearFinished_burstArmed (s : State) : (clearFinished s).burstArmed = s.burstArmed := rfl
@[simp] theorem clearFinished_burstDeadline (s : State) : (clearFinished s).burstDeadline = s.burstDeadline := rfl
@[simp] theorem clearFinished_frameArmed (s : State) : (clearFinished s).frameArmed = s.frameArmed := rfl
@[simp] theorem clearFinished_frameDeadline (s : State) : (clearFinished s).frameDeadline = s.frameDeadline := rfl
@[simp] theorem clearFinished_attached (s : State) : (clearFinished s).attached = s.attached := rfl
@[simp] theorem clearFinished_receiving (s : State) : (clearFinished s).receiving = s.receiving := rfl
@[simp] theorem clearFinished_frameEnd (s : State) : (clearFinished s).frameEnd = s.frameEnd := rfl
@[simp] theorem clearFinished_edgeCount (s : State) : (clearFinished s).edgeCount = s.edgeCount := rfl
@[simp] theorem clearFinished_burstIdx (s : State) : (clearFinished s).burstIdx = s.burstIdx := rfl
@[simp] theorem clearFinished_bursts (s : State) : (clearFinished s).bursts = s.bursts := rfl
@[simp] theorem clearFinished_frame (s : State) : (clearFinished s).frame = s.frame := rfl
@[simp] theorem clearFinished_frameReady (s : State) : (clearFinished s).frameReady = s.frameReady := rfl
@[simp] theorem clearFinished_txw (s : State) : (clearFinished s).txw = s.txw := rfl
@[simp] theorem clearFinished_txTotal (s : State) : (clearFinished s).txTotal = s.txTotal := rfl
@[simp] theorem clearFinished_txBit (s : State) : (clearFinished s).txBit = s.txBit := rfl
@[simp] theorem clearFinished_txStarted (s : State) : (clearFinished s).txStarted = s.txStarted := rfl
@[simp] theorem clearFinished_txPhase (s : State) : (clearFinished s).txPhase = s.txPhase := rfl
@[simp] theorem clearFinished_txCount (s : State) : (clearFinished s).txCount = s.txCount := rfl
@[simp] theorem clearFinished_txActive (s : State) : (clearFinished s).txActive = s.txActive := rfl
@[simp] theorem clearFinished_txFinished (s : State) : (clearFinished s).txFinished = false := rfl
@[simp] theorem clearFinished_txGate (s : State) : (clearFinished s).txGate = s.txGate := rfl
@[simp] theorem clearFinished_carrierOut (s : State) : (clearFinished s).carrierOut = s.carrierOut := rfl
@[simp] theorem clearFinished_busEnOut (s : State) : (clearFinished s).busEnOut = s.busEnOut := rfl
@[simp] theorem clearFinished_cfg (s : State) : (clearFinished s).cfg = s.cfg := rfl
@[simp] theorem clearFinished_micro (s : State) : (clearFinished s).micro = s.micro := rfl
@[simp] theorem clearFinished_inbox (s : State) : (clearFinished s).inbox = s.inbox := rfl
@[simp] theorem clearFinished_sched (s : State) : (clearFinished s).sched = s.sched := rfl
@[simp] theorem clearFinished_trace (s : State) : (clearFinished s).trace = s.trace := rfl
@[simp] theorem clearFinished_freeCount (s : State) : (clearFinished s).freeCount = s.freeCount := rfl

@[simp] theorem countEdge_initialized (s : State) : (countEdge s).initialized = s.initialized := rfl
@[simp] theorem countEdge_rxPresent (s : State) : (countEdge s).rxPresent = s.rxPresent := rfl
@[simp] theorem countEdge_txPresent (s : State) : (countEdge s).txPresent = s.txPresent := rfl
@[simp] theorem countEdge_now (s : State) : (countEdge s).now = s.now := rfl
@[simp] theorem countEdge_burstArmed (s : State) : (countEdge s).burstArmed = true := rfl
@[simp] theorem countEdge_burstDeadline (s : State) : (countEdge s).burstDeadline = s.now + s.cfg.tBit := rfl
@[simp] theorem countEdge_frameArmed (s : State) : (countEdge s).frameArmed = true := rfl
@[simp] theorem countEdge_frameDeadline (s : State) : (countEdge s).frameDeadline = s.now + s.cfg.tFrame := rfl
@[simp] theorem countEdge_attached (s : State) : (countEdge s).attached = s.attached := rfl
@[simp] theorem countEdge_receiving (s : State) : (countEdge s).receiving = true := rfl
@[simp] theorem countEdge_frameEnd (s : State) : (countEdge s).frameEnd = s.frameEnd := rfl
@[simp] theorem countEdge_edgeCount (s : State) : (countEdge s).edgeCount = s.edgeCount + 1 := rfl
@[simp] theorem countEdge_burstIdx (s : State) : (countEdge s).burstIdx = s.burstIdx := rfl
@[simp] theorem countEdge_bursts (s : State) : (countEdge s).bursts = s.bursts := rfl
@[simp] theorem countEdge_frame (s : State) : (countEdge s).frame = s.frame := rfl
@[simp] theorem countEdge_frameReady (s : State) : (countEdge s).frameReady = s.frameReady := rfl
@[simp] theorem countEdge_txw (s : State) : (countEdge s).txw = s.txw := rfl
@[simp] theorem countEdge_txTotal (s : State) : (countEdge s).txTotal = s.txTotal := rfl
@[simp] theorem countEdge_txBit (s : State) : (countEdge s).txBit = s.txBit := rfl
@[simp] theorem countEdge_txStarted (s : State) : (countEdge s).txStarted = s.txStarted := rfl
@[simp] theorem countEdge_txPhase (s : State) : (countEdge s).txPhase = s.txPhase := rfl
@[simp] theorem countEdge_txCount (s : State) : (countEdge s).txCount = s.txCount := rfl
@[simp] theorem countEdge_txActive (s : State) : (countEdge s).txActive = s.txActive := rfl
@[simp] theorem countEdge_txFinished (s : State) : (countEdge s).txFinished = s.txFinished := rfl
@[simp] theorem countEdge_txGate (s : State) : (countEdge s).txGate = s.txGate := rfl
@[simp] theorem countEdge_carrierOut (s : State) : (countEdge s).carrierOut = s.carrierOut := rfl
@[simp] theorem countEdge_busEnOut (s : State) : (countEdge s).busEnOut = s.busEnOut := rfl
@[simp] theorem countEdge_cfg (s : State) : (countEdge s).cfg = s.cfg := rfl
@[simp] theorem countEdge_micro (s : State) : (countEdge s).micro = s.micro := rfl
@[simp] theorem countEdge_inbox (s : State) : (countEdge s).inbox = s.inbox := rfl
@[simp] theorem countEdge_sched (s : State) : (countEdge s).sched = s.sched := rfl
@[simp] theorem countEdge_trace (s : State) : (countEdge s).trace = s.trace := rfl
@[simp] theorem countEdge_freeCount (s : State) : (countEdge s).freeCount = s.freeCount := rfl

@[simp] theorem storeBurst_initialized (s : State) : (storeBurst s).initialized = s.initialized := rfl
@[simp] theorem storeBurst_rxPresent (s : State) : (storeBurst s).rxPresent = s.rxPresent := rfl
@[simp] theorem storeBurst_txPresent (s : State) : (storeBurst s).txPresent = s.txPresent := rfl
@[simp] theorem storeBurst_now (s : State) : (storeBurst s).now = s.now := rfl
@[simp] theorem storeBurst_burstArmed (s : State) : (storeBurst s).burstArmed = false := rfl
@[simp] theorem storeBurst_burstDeadline (s : State) : (storeBurst s).burstDeadline = s.burstDeadline := rfl
@[simp] theorem storeBurst_frameArmed (s : State) : (storeBurst s).frameArmed = s.frameArmed := rfl
@[simp] theorem storeBurst_frameDeadline (s : State) : (storeBurst s).frameDeadline = s.frameDeadline := rfl
@[simp] theorem storeBurst_attached (s : State) : (storeBurst s).attached = s.attached := rfl
@[simp] theorem storeBurst_receiving (s : State) : (storeBurst s).receiving = s.receiving := rfl
@[simp] theorem storeBurst_frameEnd (s : State) : (storeBurst s).frameEnd = s.frameEnd := rfl
@[simp] theorem storeBurst_edgeCount (s : State) : (storeBurst s).edgeCount = 0 := rfl
@[simp] theorem storeBurst_burstIdx (s : State) : (storeBurst s).burstIdx = advance s.cfg s.burstIdx := rfl
@[simp] theorem storeBurst_bursts (s : State) : (storeBurst s).bursts = s.bursts.set s.burstIdx s.edgeCount := rfl
@[simp] theorem storeBurst_frame (s : State) : (storeBurst s).frame = s.frame := rfl
@[simp] theorem storeBurst_frameReady (s : State) : (storeBurst s).frameReady = s.frameReady := rfl
@[simp] theorem storeBurst_txw (s : State) : (storeBurst s).txw = s.txw := rfl
@[simp] theorem storeBurst_txTotal (s : State) : (storeBurst s).txTotal = s.txTotal := rfl
@[simp] theorem storeBurst_txBit (s : State) : (storeBurst s).txBit = s.txBit := rfl
@[simp] theorem storeBurst_txStarted (s : State) : (storeBurst s).txStarted = s.txStarted := rfl
@[simp] theorem storeBurst_txPhase (s : State) : (storeBurst s).txPhase = s.txPhase := rfl
@[simp] theorem storeBurst_txCount (s : State) : (storeBurst s).txCount = s.txCount := rfl
@[simp] theorem storeBurst_txActive (s : State) : (storeBurst s).txActive = s.txActive := rfl
@[simp] theorem storeBurst_txFinished (s : State) : (storeBurst s).txFinished = s.txFinished := rfl
@[simp] theorem storeBurst_txGate (s : State) : (storeBurst s).txGate = s.txGate := rfl
@[simp] theorem storeBurst_carrierOut (s : State) : (storeBurst s).carrierOut = s.carrierOut := rfl
@[simp] theorem storeBurst_busEnOut (s : State) : (storeBurst s).busEnOut = s.busEnOut := rfl
@[simp] theorem storeBurst_cfg (s : State) : (storeBurst s).cfg = s.cfg := rfl
@[simp] theorem storeBurst_micro (s : State) : (storeBurst s).micro = s.micro := rfl
@[simp] theorem storeBurst_inbox (s : State) : (storeBurst s).inbox = s.inbox := rfl
@[simp] theorem storeBurst_sched (s : State) : (storeBurst s).sched = s.sched := rfl
@[simp] theorem storeBurst_trace (s : State) : (storeBurst s).trace = s.trace := rfl
@[simp] theorem storeBurst_freeCount (s : State) : (storeBurst s).freeCount = s.freeCount := rfl

@[simp] theorem markFrameEnd_initialized (s : State) : (markFrameEnd s).initialized = s.initialized := rfl
@[simp] theorem markFrameEnd_rxPresent (s : State) : (markFrameEnd s).rxPresent = s.rxPresent := rfl
@[simp] theorem markFrameEnd_txPresent (s : State) : (markFrameEnd s).txPresent = s.txPresent := rfl
@[simp] theorem markFrameEnd_now (s : State) : (markFrameEnd s).now = s.now := rfl
@[simp] theorem markFrameEnd_burstArmed (s : State) : (markFrameEnd s).burstArmed = s.burstArmed := rfl
@[simp] theorem markFrameEnd_burstDeadline (s : State) : (markFrameEnd s).burstDeadline = s.burstDeadline := rfl
@[simp] theorem markFrameEnd_frameArmed (s : State) : (markFrameEnd s).frameArmed = false := rfl
@[simp] theorem markFrameEnd_frameDeadline (s : State) : (markFrameEnd s).frameDeadline = s.frameDeadline := rfl
@[simp] theorem markFrameEnd_attached (s : State) : (markFrameEnd s).attached = s.attached := rfl
@[simp] theorem markFrameEnd_receiving (s : State) : (markFrameEnd s).receiving = false := rfl
@[simp] theorem markFrameEnd_frameEnd (s : State) : (markFrameEnd s).frameEnd = true := rfl
@[simp] theorem markFrameEnd_edgeCount (s : State) : (markFrameEnd s).edgeCount = s.edgeCount := rfl
@[simp] theorem markFrameEnd_burstIdx (s : State) : (markFrameEnd s).burstIdx = s.burstIdx := rfl
@[simp] theorem markFrameEnd_bursts (s : State) : (markFrameEnd s).bursts = s.bursts := rfl
@[simp] theorem markFrameEnd_frame (s : State) : (markFrameEnd s).frame = s.frame := rfl
@[simp] theorem markFrameEnd_frameReady (s : State) : (markFrameEnd s).frameReady = s.frameReady := rfl
@[simp] theorem markFrameEnd_txw (s : State) : (markFrameEnd s).txw = s.txw := rfl
@[simp] theorem markFrameEnd_txTotal (s : State) : (markFrameEnd s).txTotal = s.txTotal := rfl
@[simp] theorem markFrameEnd_txBit (s : State) : (markFrameEnd s).txBit = s.txBit := rfl
@[simp] theorem markFrameEnd_txStarted (s : State) : (markFrameEnd s).txStarted = s.txStarted := rfl
@[simp] theorem markFrameEnd_txPhase (s : State) : (markFrameEnd s).txPhase = s.txPhase := rfl
@[simp] theorem markFrameEnd_txCount (s : State) : (markFrameEnd s).txCount = s.txCount := rfl
@[simp] theorem markFrameEnd_txActive (s : State) : (markFrameEnd s).txActive = s.txActive := rfl
@[simp] theorem markFrameEnd_txFinished (s : State) : (markFrameEnd s).txFinished = s.txFinished := rfl
@[simp] theorem markFrameEnd_txGate (s : State) : (markFrameEnd s).txGate = s.txGate := rfl
@[simp] theorem markFrameEnd_carrierOut (s : State) : (markFrameEnd s).carrierOut = s.carrierOut := rfl
@[simp] theorem markFrameEnd_busEnOut (s : State) : (markFrameEnd s).busEnOut = s.busEnOut := rfl
@[simp] theorem markFrameEnd_cfg (s : State) : (markFrameEnd s).cfg = s.cfg := rfl
@[simp] theorem markFrameEnd_micro (s : State) : (markFrameEnd s).micro = s.micro := rfl
@[simp] theorem markFrameEnd_inbox (s : State) : (markFrameEnd s).inbox = s.inbox := rfl
@[simp] theorem markFrameEnd_sched (s : State) : (markFrameEnd s).sched = s.sched := rfl
@[simp] theorem markFrameEnd_trace (s : State) : (markFrameEnd s).trace = s.trace := rfl
@[simp] theorem markFrameEnd_freeCount (s : State) : (markFrameEnd s).freeCount = s.freeCount := rfl

@[simp] theorem acceptSend_initialized (b : List Byte) (s : State) :
    (acceptSend b s).initialized = s.initialized := rfl
@[simp] theorem acceptSend_rxPresent (b : List Byte) (s : State) : (acceptSend b s).rxPresent = s.rxPresent := rfl
@[simp] theorem acceptSend_txPresent (b : List Byte) (s : State) : (acceptSend b s).txPresent = s.txPresent := rfl
@[simp] theorem acceptSend_now (b : List Byte) (s : State) : (acceptSend b s).now = s.now := rfl
@[simp] theorem acceptSend_burstArmed (b : List Byte) (s : State) : (acceptSend b s).burstArmed = s.burstArmed := rfl
@[simp] theorem acceptSend_burstDeadline (b : List Byte) (s : State) :
    (acceptSend b s).burstDeadline = s.burstDeadline := rfl
@[simp] theorem acceptSend_frameArmed (b : List Byte) (s : State) : (acceptSend b s).frameArmed = s.frameArmed := rfl
@[simp] theorem acceptSend_frameDeadline (b : List Byte) (s : State) :
    (acceptSend b s).frameDeadline = s.frameDeadline := rfl
@[simp] theorem acceptSend_attached (b : List Byte) (s : State) : (acceptSend b s).attached = s.attached := rfl
@[simp] theorem acceptSend_receiving (b : List Byte) (s : State) : (acceptSend b s).receiving = s.receiving := rfl
@[simp] theorem acceptSend_frameEnd (b : List Byte) (s : State) : (acceptSend b s).frameEnd = s.frameEnd := rfl
@[simp] theorem acceptSend_edgeCount (b : List Byte) (s : State) : (acceptSend b s).edgeCount = s.edgeCount := rfl
@[simp] theorem acceptSend_burstIdx (b : List Byte) (s : State) : (acceptSend b s).burstIdx = s.burstIdx := rfl
@[simp] theorem acceptSend_bursts (b : List Byte) (s : State) : (acceptSend b s).bursts = s.bursts := rfl
@[simp] theorem acceptSend_frame (b : List Byte) (s : State) : (acceptSend b s).frame = s.frame := rfl
@[simp] theorem acceptSend_frameReady (b : List Byte) (s : State) : (acceptSend b s).frameReady = s.frameReady := rfl
@[simp] theorem acceptSend_txw (b : List Byte) (s : State) :
    (acceptSend b s).txw = txWords b ++ freeTxWords s.cfg s.freeCount (b.length + 1) := rfl
@[simp] theorem acceptSend_txTotal (b : List Byte) (s : State) : (acceptSend b s).txTotal = (b.length + 1) * 9 := rfl
@[simp] theorem acceptSend_txBit (b : List Byte) (s : State) : (acceptSend b s).txBit = 0 := rfl
@[simp] theorem acceptSend_txStarted (b : List Byte) (s : State) : (acceptSend b s).txStarted = false := rfl
@[simp] theorem acceptSend_txPhase (b : List Byte) (s : State) : (acceptSend b s).txPhase = .silence := rfl
@[simp] theorem acceptSend_txCount (b : List Byte) (s : State) : (acceptSend b s).txCount = 0 := rfl
@[simp] theorem acceptSend_txActive (b : List Byte) (s : State) : (acceptSend b s).txActive = true := rfl
@[simp] theorem acceptSend_txFinished (b : List Byte) (s : State) : (acceptSend b s).txFinished = s.txFinished := rfl
@[simp] theorem acceptSend_txGate (b : List Byte) (s : State) : (acceptSend b s).txGate = s.txGate := rfl
@[simp] theorem acceptSend_carrierOut (b : List Byte) (s : State) : (acceptSend b s).carrierOut = s.carrierOut := rfl
@[simp] theorem acceptSend_busEnOut (b : List Byte) (s : State) : (acceptSend b s).busEnOut = s.busEnOut := rfl
@[simp] theorem acceptSend_cfg (b : List Byte) (s : State) : (acceptSend b s).cfg = s.cfg := rfl
@[simp] theorem acceptSend_micro (b : List Byte) (s : State) : (acceptSend b s).micro = s.micro := rfl
@[simp] theorem acceptSend_inbox (b : List Byte) (s : State) : (acceptSend b s).inbox = s.inbox := rfl
@[simp] theorem acceptSend_sched (b : List Byte) (s : State) : (acceptSend b s).sched = s.sched := rfl
@[simp] theorem acceptSend_trace (b : List Byte) (s : State) : (acceptSend b s).trace = .outcome .ok :: s.trace := rfl
@[simp] theorem acceptSend_freeCount (b : List Byte) (s : State) : (acceptSend b s).freeCount = s.freeCount + 1 := rfl

@[simp] theorem beginSilence_initialized (s : State) : (beginSilence s).initialized = s.initialized := rfl
@[simp] theorem beginSilence_rxPresent (s : State) : (beginSilence s).rxPresent = s.rxPresent := rfl
@[simp] theorem beginSilence_txPresent (s : State) : (beginSilence s).txPresent = s.txPresent := rfl
@[simp] theorem beginSilence_now (s : State) : (beginSilence s).now = s.now := rfl
@[simp] theorem beginSilence_burstArmed (s : State) : (beginSilence s).burstArmed = s.burstArmed := rfl
@[simp] theorem beginSilence_burstDeadline (s : State) : (beginSilence s).burstDeadline = s.burstDeadline := rfl
@[simp] theorem beginSilence_frameArmed (s : State) : (beginSilence s).frameArmed = s.frameArmed := rfl
@[simp] theorem beginSilence_frameDeadline (s : State) : (beginSilence s).frameDeadline = s.frameDeadline := rfl
@[simp] theorem beginSilence_attached (s : State) : (beginSilence s).attached = s.attached := rfl
@[simp] theorem beginSilence_receiving (s : State) : (beginSilence s).receiving = s.receiving := rfl
@[simp] theorem beginSilence_frameEnd (s : State) : (beginSilence s).frameEnd = s.frameEnd := rfl
@[simp] theorem beginSilence_edgeCount (s : State) : (beginSilence s).edgeCount = s.edgeCount := rfl
@[simp] theorem beginSilence_burstIdx (s : State) : (beginSilence s).burstIdx = s.burstIdx := rfl
@[simp] theorem beginSilence_bursts (s : State) : (beginSilence s).bursts = s.bursts := rfl
@[simp] theorem beginSilence_frame (s : State) : (beginSilence s).frame = s.frame := rfl
@[simp] theorem beginSilence_frameReady (s : State) : (beginSilence s).frameReady = s.frameReady := rfl
@[simp] theorem beginSilence_txw (s : State) : (beginSilence s).txw = s.txw := rfl
@[simp] theorem beginSilence_txTotal (s : State) : (beginSilence s).txTotal = s.txTotal := rfl
@[simp] theorem beginSilence_txBit (s : State) : (beginSilence s).txBit = s.txBit := rfl
@[simp] theorem beginSilence_txStarted (s : State) : (beginSilence s).txStarted = s.txStarted := rfl
@[simp] theorem beginSilence_txPhase (s : State) : (beginSilence s).txPhase = .silence := rfl
@[simp] theorem beginSilence_txCount (s : State) : (beginSilence s).txCount = s.cfg.nSilence := rfl
@[simp] theorem beginSilence_txActive (s : State) : (beginSilence s).txActive = s.txActive := rfl
@[simp] theorem beginSilence_txFinished (s : State) : (beginSilence s).txFinished = s.txFinished := rfl
@[simp] theorem beginSilence_txGate (s : State) : (beginSilence s).txGate = s.txGate := rfl
@[simp] theorem beginSilence_carrierOut (s : State) : (beginSilence s).carrierOut = .off := rfl
@[simp] theorem beginSilence_busEnOut (s : State) : (beginSilence s).busEnOut = s.busEnOut := rfl
@[simp] theorem beginSilence_cfg (s : State) : (beginSilence s).cfg = s.cfg := rfl
@[simp] theorem beginSilence_micro (s : State) : (beginSilence s).micro = s.micro := rfl
@[simp] theorem beginSilence_inbox (s : State) : (beginSilence s).inbox = s.inbox := rfl
@[simp] theorem beginSilence_sched (s : State) : (beginSilence s).sched = s.sched := rfl
@[simp] theorem beginSilence_trace (s : State) : (beginSilence s).trace = s.trace := rfl
@[simp] theorem beginSilence_freeCount (s : State) : (beginSilence s).freeCount = s.freeCount := rfl

@[simp] theorem loadStart_initialized (s : State) : (loadStart s).initialized = s.initialized := rfl
@[simp] theorem loadStart_rxPresent (s : State) : (loadStart s).rxPresent = s.rxPresent := rfl
@[simp] theorem loadStart_txPresent (s : State) : (loadStart s).txPresent = s.txPresent := rfl
@[simp] theorem loadStart_now (s : State) : (loadStart s).now = s.now := rfl
@[simp] theorem loadStart_burstArmed (s : State) : (loadStart s).burstArmed = s.burstArmed := rfl
@[simp] theorem loadStart_burstDeadline (s : State) : (loadStart s).burstDeadline = s.burstDeadline := rfl
@[simp] theorem loadStart_frameArmed (s : State) : (loadStart s).frameArmed = s.frameArmed := rfl
@[simp] theorem loadStart_frameDeadline (s : State) : (loadStart s).frameDeadline = s.frameDeadline := rfl
@[simp] theorem loadStart_attached (s : State) : (loadStart s).attached = s.attached := rfl
@[simp] theorem loadStart_receiving (s : State) : (loadStart s).receiving = s.receiving := rfl
@[simp] theorem loadStart_frameEnd (s : State) : (loadStart s).frameEnd = s.frameEnd := rfl
@[simp] theorem loadStart_edgeCount (s : State) : (loadStart s).edgeCount = s.edgeCount := rfl
@[simp] theorem loadStart_burstIdx (s : State) : (loadStart s).burstIdx = s.burstIdx := rfl
@[simp] theorem loadStart_bursts (s : State) : (loadStart s).bursts = s.bursts := rfl
@[simp] theorem loadStart_frame (s : State) : (loadStart s).frame = s.frame := rfl
@[simp] theorem loadStart_frameReady (s : State) : (loadStart s).frameReady = s.frameReady := rfl
@[simp] theorem loadStart_txw (s : State) : (loadStart s).txw = s.txw := rfl
@[simp] theorem loadStart_txTotal (s : State) : (loadStart s).txTotal = s.txTotal := rfl
@[simp] theorem loadStart_txBit (s : State) : (loadStart s).txBit = s.txBit := rfl
@[simp] theorem loadStart_txStarted (s : State) : (loadStart s).txStarted = true := rfl
@[simp] theorem loadStart_txPhase (s : State) : (loadStart s).txPhase = .burst := rfl
@[simp] theorem loadStart_txCount (s : State) : (loadStart s).txCount = s.cfg.nStart := rfl
@[simp] theorem loadStart_txActive (s : State) : (loadStart s).txActive = s.txActive := rfl
@[simp] theorem loadStart_txFinished (s : State) : (loadStart s).txFinished = s.txFinished := rfl
@[simp] theorem loadStart_txGate (s : State) : (loadStart s).txGate = s.txGate := rfl
@[simp] theorem loadStart_carrierOut (s : State) : (loadStart s).carrierOut = .on := rfl
@[simp] theorem loadStart_busEnOut (s : State) : (loadStart s).busEnOut = s.busEnOut := rfl
@[simp] theorem loadStart_cfg (s : State) : (loadStart s).cfg = s.cfg := rfl
@[simp] theorem loadStart_micro (s : State) : (loadStart s).micro = s.micro := rfl
@[simp] theorem loadStart_inbox (s : State) : (loadStart s).inbox = s.inbox := rfl
@[simp] theorem loadStart_sched (s : State) : (loadStart s).sched = s.sched := rfl
@[simp] theorem loadStart_trace (s : State) : (loadStart s).trace = s.trace := rfl
@[simp] theorem loadStart_freeCount (s : State) : (loadStart s).freeCount = s.freeCount := rfl

@[simp] theorem loadBit_initialized (s : State) : (loadBit s).initialized = s.initialized := rfl
@[simp] theorem loadBit_rxPresent (s : State) : (loadBit s).rxPresent = s.rxPresent := rfl
@[simp] theorem loadBit_txPresent (s : State) : (loadBit s).txPresent = s.txPresent := rfl
@[simp] theorem loadBit_now (s : State) : (loadBit s).now = s.now := rfl
@[simp] theorem loadBit_burstArmed (s : State) : (loadBit s).burstArmed = s.burstArmed := rfl
@[simp] theorem loadBit_burstDeadline (s : State) : (loadBit s).burstDeadline = s.burstDeadline := rfl
@[simp] theorem loadBit_frameArmed (s : State) : (loadBit s).frameArmed = s.frameArmed := rfl
@[simp] theorem loadBit_frameDeadline (s : State) : (loadBit s).frameDeadline = s.frameDeadline := rfl
@[simp] theorem loadBit_attached (s : State) : (loadBit s).attached = s.attached := rfl
@[simp] theorem loadBit_receiving (s : State) : (loadBit s).receiving = s.receiving := rfl
@[simp] theorem loadBit_frameEnd (s : State) : (loadBit s).frameEnd = s.frameEnd := rfl
@[simp] theorem loadBit_edgeCount (s : State) : (loadBit s).edgeCount = s.edgeCount := rfl
@[simp] theorem loadBit_burstIdx (s : State) : (loadBit s).burstIdx = s.burstIdx := rfl
@[simp] theorem loadBit_bursts (s : State) : (loadBit s).bursts = s.bursts := rfl
@[simp] theorem loadBit_frame (s : State) : (loadBit s).frame = s.frame := rfl
@[simp] theorem loadBit_frameReady (s : State) : (loadBit s).frameReady = s.frameReady := rfl
@[simp] theorem loadBit_txw (s : State) : (loadBit s).txw = s.txw := rfl
@[simp] theorem loadBit_txTotal (s : State) : (loadBit s).txTotal = s.txTotal := rfl
@[simp] theorem loadBit_txBit (s : State) : (loadBit s).txBit = s.txBit + 1 := rfl
@[simp] theorem loadBit_txStarted (s : State) : (loadBit s).txStarted = s.txStarted := rfl
@[simp] theorem loadBit_txPhase (s : State) : (loadBit s).txPhase = .burst := rfl
@[simp] theorem loadBit_txCount (s : State) :
    (loadBit s).txCount = if txBitOf s.txw s.txBit then s.cfg.nOne else s.cfg.nZero := rfl
@[simp] theorem loadBit_txActive (s : State) : (loadBit s).txActive = s.txActive := rfl
@[simp] theorem loadBit_txFinished (s : State) : (loadBit s).txFinished = s.txFinished := rfl
@[simp] theorem loadBit_txGate (s : State) : (loadBit s).txGate = s.txGate := rfl
@[simp] theorem loadBit_carrierOut (s : State) : (loadBit s).carrierOut = .on := rfl
@[simp] theorem loadBit_busEnOut (s : State) : (loadBit s).busEnOut = s.busEnOut := rfl
@[simp] theorem loadBit_cfg (s : State) : (loadBit s).cfg = s.cfg := rfl
@[simp] theorem loadBit_micro (s : State) : (loadBit s).micro = s.micro := rfl
@[simp] theorem loadBit_inbox (s : State) : (loadBit s).inbox = s.inbox := rfl
@[simp] theorem loadBit_sched (s : State) : (loadBit s).sched = s.sched := rfl
@[simp] theorem loadBit_trace (s : State) : (loadBit s).trace = s.trace := rfl
@[simp] theorem loadBit_freeCount (s : State) : (loadBit s).freeCount = s.freeCount := rfl

@[simp] theorem countDown_initialized (s : State) : (countDown s).initialized = s.initialized := rfl
@[simp] theorem countDown_rxPresent (s : State) : (countDown s).rxPresent = s.rxPresent := rfl
@[simp] theorem countDown_txPresent (s : State) : (countDown s).txPresent = s.txPresent := rfl
@[simp] theorem countDown_now (s : State) : (countDown s).now = s.now := rfl
@[simp] theorem countDown_burstArmed (s : State) : (countDown s).burstArmed = s.burstArmed := rfl
@[simp] theorem countDown_burstDeadline (s : State) : (countDown s).burstDeadline = s.burstDeadline := rfl
@[simp] theorem countDown_frameArmed (s : State) : (countDown s).frameArmed = s.frameArmed := rfl
@[simp] theorem countDown_frameDeadline (s : State) : (countDown s).frameDeadline = s.frameDeadline := rfl
@[simp] theorem countDown_attached (s : State) : (countDown s).attached = s.attached := rfl
@[simp] theorem countDown_receiving (s : State) : (countDown s).receiving = s.receiving := rfl
@[simp] theorem countDown_frameEnd (s : State) : (countDown s).frameEnd = s.frameEnd := rfl
@[simp] theorem countDown_edgeCount (s : State) : (countDown s).edgeCount = s.edgeCount := rfl
@[simp] theorem countDown_burstIdx (s : State) : (countDown s).burstIdx = s.burstIdx := rfl
@[simp] theorem countDown_bursts (s : State) : (countDown s).bursts = s.bursts := rfl
@[simp] theorem countDown_frame (s : State) : (countDown s).frame = s.frame := rfl
@[simp] theorem countDown_frameReady (s : State) : (countDown s).frameReady = s.frameReady := rfl
@[simp] theorem countDown_txw (s : State) : (countDown s).txw = s.txw := rfl
@[simp] theorem countDown_txTotal (s : State) : (countDown s).txTotal = s.txTotal := rfl
@[simp] theorem countDown_txBit (s : State) : (countDown s).txBit = s.txBit := rfl
@[simp] theorem countDown_txStarted (s : State) : (countDown s).txStarted = s.txStarted := rfl
@[simp] theorem countDown_txPhase (s : State) : (countDown s).txPhase = s.txPhase := rfl
@[simp] theorem countDown_txCount (s : State) : (countDown s).txCount = s.txCount - 1 := rfl
@[simp] theorem countDown_txActive (s : State) : (countDown s).txActive = s.txActive := rfl
@[simp] theorem countDown_txFinished (s : State) : (countDown s).txFinished = s.txFinished := rfl
@[simp] theorem countDown_txGate (s : State) : (countDown s).txGate = s.txGate := rfl
@[simp] theorem countDown_carrierOut (s : State) : (countDown s).carrierOut = s.carrierOut := rfl
@[simp] theorem countDown_busEnOut (s : State) : (countDown s).busEnOut = s.busEnOut := rfl
@[simp] theorem countDown_cfg (s : State) : (countDown s).cfg = s.cfg := rfl
@[simp] theorem countDown_micro (s : State) : (countDown s).micro = s.micro := rfl
@[simp] theorem countDown_inbox (s : State) : (countDown s).inbox = s.inbox := rfl
@[simp] theorem countDown_sched (s : State) : (countDown s).sched = s.sched := rfl
@[simp] theorem countDown_trace (s : State) : (countDown s).trace = s.trace := rfl
@[simp] theorem countDown_freeCount (s : State) : (countDown s).freeCount = s.freeCount := rfl

@[simp] theorem finishTx_initialized (s : State) : (finishTx s).initialized = s.initialized := rfl
@[simp] theorem finishTx_rxPresent (s : State) : (finishTx s).rxPresent = s.rxPresent := rfl
@[simp] theorem finishTx_txPresent (s : State) : (finishTx s).txPresent = s.txPresent := rfl
@[simp] theorem finishTx_now (s : State) : (finishTx s).now = s.now := rfl
@[simp] theorem finishTx_burstArmed (s : State) : (finishTx s).burstArmed = s.burstArmed := rfl
@[simp] theorem finishTx_burstDeadline (s : State) : (finishTx s).burstDeadline = s.burstDeadline := rfl
@[simp] theorem finishTx_frameArmed (s : State) : (finishTx s).frameArmed = s.frameArmed := rfl
@[simp] theorem finishTx_frameDeadline (s : State) : (finishTx s).frameDeadline = s.frameDeadline := rfl
@[simp] theorem finishTx_attached (s : State) : (finishTx s).attached = s.attached := rfl
@[simp] theorem finishTx_receiving (s : State) : (finishTx s).receiving = s.receiving := rfl
@[simp] theorem finishTx_frameEnd (s : State) : (finishTx s).frameEnd = s.frameEnd := rfl
@[simp] theorem finishTx_edgeCount (s : State) : (finishTx s).edgeCount = s.edgeCount := rfl
@[simp] theorem finishTx_burstIdx (s : State) : (finishTx s).burstIdx = s.burstIdx := rfl
@[simp] theorem finishTx_bursts (s : State) : (finishTx s).bursts = s.bursts := rfl
@[simp] theorem finishTx_frame (s : State) : (finishTx s).frame = s.frame := rfl
@[simp] theorem finishTx_frameReady (s : State) : (finishTx s).frameReady = s.frameReady := rfl
@[simp] theorem finishTx_txw (s : State) : (finishTx s).txw = freeTxWords s.cfg s.freeCount 0 := rfl
@[simp] theorem finishTx_txTotal (s : State) : (finishTx s).txTotal = s.txTotal := rfl
@[simp] theorem finishTx_txBit (s : State) : (finishTx s).txBit = s.txBit := rfl
@[simp] theorem finishTx_txStarted (s : State) : (finishTx s).txStarted = s.txStarted := rfl
@[simp] theorem finishTx_txPhase (s : State) : (finishTx s).txPhase = s.txPhase := rfl
@[simp] theorem finishTx_txCount (s : State) : (finishTx s).txCount = s.txCount := rfl
@[simp] theorem finishTx_txActive (s : State) : (finishTx s).txActive = false := rfl
@[simp] theorem finishTx_txFinished (s : State) : (finishTx s).txFinished = true := rfl
@[simp] theorem finishTx_txGate (s : State) : (finishTx s).txGate = false := rfl
@[simp] theorem finishTx_carrierOut (s : State) : (finishTx s).carrierOut = .off := rfl
@[simp] theorem finishTx_busEnOut (s : State) : (finishTx s).busEnOut = false := rfl
@[simp] theorem finishTx_cfg (s : State) : (finishTx s).cfg = s.cfg := rfl
@[simp] theorem finishTx_micro (s : State) : (finishTx s).micro = s.micro := rfl
@[simp] theorem finishTx_inbox (s : State) : (finishTx s).inbox = s.inbox := rfl
@[simp] theorem finishTx_sched (s : State) : (finishTx s).sched = s.sched := rfl
@[simp] theorem finishTx_trace (s : State) : (finishTx s).trace = s.trace := rfl
@[simp] theorem finishTx_freeCount (s : State) : (finishTx s).freeCount = s.freeCount + 1 := rfl

@[simp] theorem commitDecode_initialized (n : Nat) (b : List Count) (s : State) :
    (commitDecode n b s).initialized = s.initialized := rfl
@[simp] theorem commitDecode_rxPresent (n : Nat) (b : List Count) (s : State) :
    (commitDecode n b s).rxPresent = s.rxPresent := rfl
@[simp] theorem commitDecode_txPresent (n : Nat) (b : List Count) (s : State) :
    (commitDecode n b s).txPresent = s.txPresent := rfl
@[simp] theorem commitDecode_now (n : Nat) (b : List Count) (s : State) : (commitDecode n b s).now = s.now := rfl
@[simp] theorem commitDecode_burstArmed (n : Nat) (b : List Count) (s : State) :
    (commitDecode n b s).burstArmed = s.burstArmed := rfl
@[simp] theorem commitDecode_burstDeadline (n : Nat) (b : List Count) (s : State) :
    (commitDecode n b s).burstDeadline = s.burstDeadline := rfl
@[simp] theorem commitDecode_frameArmed (n : Nat) (b : List Count) (s : State) :
    (commitDecode n b s).frameArmed = s.frameArmed := rfl
@[simp] theorem commitDecode_frameDeadline (n : Nat) (b : List Count) (s : State) :
    (commitDecode n b s).frameDeadline = s.frameDeadline := rfl
@[simp] theorem commitDecode_attached (n : Nat) (b : List Count) (s : State) :
    (commitDecode n b s).attached = s.attached := rfl
@[simp] theorem commitDecode_receiving (n : Nat) (b : List Count) (s : State) :
    (commitDecode n b s).receiving = s.receiving := rfl
@[simp] theorem commitDecode_frameEnd (n : Nat) (b : List Count) (s : State) :
    (commitDecode n b s).frameEnd = s.frameEnd := rfl
@[simp] theorem commitDecode_edgeCount (n : Nat) (b : List Count) (s : State) :
    (commitDecode n b s).edgeCount = s.edgeCount := rfl
@[simp] theorem commitDecode_burstIdx (n : Nat) (b : List Count) (s : State) :
    (commitDecode n b s).burstIdx = s.burstIdx := rfl
@[simp] theorem commitDecode_bursts (n : Nat) (b : List Count) (s : State) :
    (commitDecode n b s).bursts = s.bursts := rfl
@[simp] theorem commitDecode_frameReady (n : Nat) (b : List Count) (s : State) :
    (commitDecode n b s).frameReady = true := rfl
@[simp] theorem commitDecode_txw (n : Nat) (b : List Count) (s : State) : (commitDecode n b s).txw = s.txw := rfl
@[simp] theorem commitDecode_txTotal (n : Nat) (b : List Count) (s : State) :
    (commitDecode n b s).txTotal = s.txTotal := rfl
@[simp] theorem commitDecode_txBit (n : Nat) (b : List Count) (s : State) :
    (commitDecode n b s).txBit = s.txBit := rfl
@[simp] theorem commitDecode_txStarted (n : Nat) (b : List Count) (s : State) :
    (commitDecode n b s).txStarted = s.txStarted := rfl
@[simp] theorem commitDecode_txPhase (n : Nat) (b : List Count) (s : State) :
    (commitDecode n b s).txPhase = s.txPhase := rfl
@[simp] theorem commitDecode_txCount (n : Nat) (b : List Count) (s : State) :
    (commitDecode n b s).txCount = s.txCount := rfl
@[simp] theorem commitDecode_txActive (n : Nat) (b : List Count) (s : State) :
    (commitDecode n b s).txActive = s.txActive := rfl
@[simp] theorem commitDecode_txFinished (n : Nat) (b : List Count) (s : State) :
    (commitDecode n b s).txFinished = s.txFinished := rfl
@[simp] theorem commitDecode_txGate (n : Nat) (b : List Count) (s : State) :
    (commitDecode n b s).txGate = s.txGate := rfl
@[simp] theorem commitDecode_carrierOut (n : Nat) (b : List Count) (s : State) :
    (commitDecode n b s).carrierOut = s.carrierOut := rfl
@[simp] theorem commitDecode_busEnOut (n : Nat) (b : List Count) (s : State) :
    (commitDecode n b s).busEnOut = s.busEnOut := rfl
@[simp] theorem commitDecode_cfg (n : Nat) (b : List Count) (s : State) : (commitDecode n b s).cfg = s.cfg := rfl
@[simp] theorem commitDecode_micro (n : Nat) (b : List Count) (s : State) :
    (commitDecode n b s).micro = s.micro := rfl
@[simp] theorem commitDecode_inbox (n : Nat) (b : List Count) (s : State) :
    (commitDecode n b s).inbox = s.inbox := rfl
@[simp] theorem commitDecode_sched (n : Nat) (b : List Count) (s : State) :
    (commitDecode n b s).sched = s.sched := rfl
@[simp] theorem commitDecode_trace (n : Nat) (b : List Count) (s : State) :
    (commitDecode n b s).trace = .outcome (decodeFrame s.cfg n b).code :: s.trace := rfl
@[simp] theorem commitDecode_freeCount (n : Nat) (b : List Count) (s : State) :
    (commitDecode n b s).freeCount = s.freeCount + 1 := rfl

@[simp] theorem commitDecode_frame_valid (n : Nat) (b : List Count) (s : State) :
    (commitDecode n b s).frame.valid = (decodeFrame s.cfg n b).valid := rfl
@[simp] theorem commitDecode_frame_len (n : Nat) (b : List Count) (s : State) :
    (commitDecode n b s).frame.len = (decodeFrame s.cfg n b).data.length := rfl
@[simp] theorem commitDecode_frame_data (n : Nat) (b : List Count) (s : State) :
    (commitDecode n b s).frame.data = (decodeFrame s.cfg n b).data ++
      freeFrameTail s.cfg s.freeCount (decodeFrame s.cfg n b).data.length := rfl

end Sys2Proof.Machine
end

