-- ==== Sys2Proof/Laws/Ops.lean ====
section
/-! SUPPORT. For each shared operation, once, everything it can do. -/

namespace Sys2Proof.Machine

/-! ### Capture procedures -/

/-- A second CAPTURE_RESET changes nothing more. -/
@[simp] theorem captureReset_captureReset (s : State) : captureReset (captureReset s) = captureReset s := by
  cases h : s.cfg.resetDisarmsAlarms <;> simp [captureReset, h]

theorem advance_lt {p : Params} {i : Nat} (h : i < p.rxCap) : advance p i < p.rxCap := by
  unfold advance; split <;> omega

/-! ### The sequencer -/

theorem goOn_zero (s : State) : goOn 0 s = s := rfl

/-- No command in progress: nothing to go on with. -/
theorem goOn_done (k : Nat) (s : State) (h : s.micro = []) : goOn k s = s := by
  cases k with
  | zero => rfl
  | succ k => simp [goOn, h]

/-- The gap is an event's: the command waits. -/
theorem goOn_waits (k : Nat) (s : State) (ts : List Turn) (h : s.sched = .event :: ts) : goOn k s = s := by
  cases k with
  | zero => rfl
  | succ k => cases hm : s.micro <;> simp [goOn, hm, h]

/-- The gap is the command's: its next micro-step runs. -/
theorem goOn_turn (k : Nat) (s : State) (m : Micro) (ms : List Micro) (ts : List Turn) (hm : s.micro = m :: ms)
    (hs : s.sched = .service :: ts) : goOn (k + 1) s = goOn k (runMicro m { s with micro := ms, sched := ts }) := by
  simp [goOn, hm, hs]

/-- No event has claimed a gap: the next micro-step runs. -/
theorem goOn_free (k : Nat) (s : State) (m : Micro) (ms : List Micro) (hm : s.micro = m :: ms) (hs : s.sched = []) :
    goOn (k + 1) s = goOn k (runMicro m { s with micro := ms }) := by
  simp [goOn, hm, hs]

/-- What every micro-step keeps, and every taking of a turn, running a command on keeps. -/
theorem goOn_keeps {P : State → Prop}
    (hmicro : ∀ s m ms ts, P s → s.micro = m :: ms → P (runMicro m { s with micro := ms, sched := ts })) :
    ∀ k s, P s → P (goOn k s) := by
  intro k
  induction k with
  | zero => intro s h; exact h
  | succ k ih =>
    intro s h
    cases hm : s.micro with
    | nil => rw [goOn_done _ _ hm]; exact h
    | cons m ms =>
      cases hs : s.sched with
      | nil =>
        rw [goOn_free _ _ _ _ hm hs]
        exact ih _ (by simpa [hs] using hmicro s m ms [] h hm)
      | cons t ts =>
        cases t with
        | event => rw [goOn_waits _ _ _ hs]; exact h
        | service => rw [goOn_turn _ _ _ _ _ hm hs]; exact ih _ (hmicro s m ms ts h hm)

/-- RX_ENABLE run with no event in its gaps (R125). -/
theorem startCommand_rxEnable (rx : Bool) (s : State) (hs : s.sched = []) :
    startCommand (rxEnable rx) s =
      if rx then { captureReset s with attached := true, micro := [] } else { s with micro := [] } := by
  cases rx with
  | false => simp [startCommand, resume, rxEnable, goOn_done]
  | true =>
    cases h : s.cfg.resetDisarmsAlarms <;>
      simp [startCommand, resume, commandFuel, rxEnable, goOn, runMicro, hs, captureReset, attach, h]

/-- START_TIMER run with no event in its gaps (R201). -/
theorem startCommand_startTimer (rx : Bool) (s : State) (hs : s.sched = []) :
    startCommand (startTimer rx) s =
      if rx then { captureReset s with attached := false, busEnOut := true, txGate := true, micro := [] }
      else { s with busEnOut := true, txGate := true, micro := [] } := by
  cases rx with
  | false =>
    simp [startCommand, resume, commandFuel, startTimer, rxDisable, goOn, runMicro, hs, driveBus, openGate]
  | true =>
    cases h : s.cfg.resetDisarmsAlarms <;>
      simp [startCommand, resume, commandFuel, startTimer, rxDisable, goOn, runMicro, hs, captureReset, detach,
        driveBus, openGate, h]

/-! ### Sending -/

/-- Where SEND answers a next state: rejected busy, rejected oversized, or accepted (R163, R164). -/
theorem sendBytes_cases {b : List Byte} {s t : State} (h : sendBytes b s = .next t) :
    s.initialized = true ∧ s.txPresent = true ∧
    ((txBusy s = true ∧ t = record (.outcome .rejBusy) s) ∨
     (txBusy s = false ∧ s.cfg.maxWordlen - 1 < b.length ∧ t = record (.outcome .rejSize) s) ∨
     (txBusy s = false ∧ b.length ≤ s.cfg.maxWordlen - 1 ∧
      t = startCommand (startTimer s.rxPresent) (acceptSend b s))) := by
  unfold sendBytes at h
  split at h
  · cases h
  · split at h
    · cases h
    · rename_i hi hp
      refine ⟨by simpa using hi, by simpa using hp, ?_⟩
      split at h
      · rename_i hb; exact .inl ⟨hb, by cases h; rfl⟩
      · rename_i hb
        split at h
        · rename_i hl; exact .inr (.inl ⟨by simpa using hb, hl, by cases h; rfl⟩)
        · rename_i hl; exact .inr (.inr ⟨by simpa using hb, by omega, by cases h; rfl⟩)

/-- Where SEND_HEX answers a next state: rejected by HEX_DECODE, or SEND of the decoded bytes (R167). -/
theorem execSendHex_cases {c : List Byte} {s t : State} (h : execSendHex c s = .next t) :
    (∃ e, hexDecode s.cfg c = .error e ∧ t = record (.outcome e) s) ∨
    (∃ b, hexDecode s.cfg c = .ok b ∧ sendBytes b s = .next t) := by
  unfold execSendHex at h
  split at h
  · cases h
  · split at h
    · cases h
    · cases hd : hexDecode s.cfg c with
      | error e => rw [hd] at h; exact .inl ⟨e, rfl, by cases h; rfl⟩
      | ok b => rw [hd] at h; exact .inr ⟨b, rfl, h⟩

/-! ### The TX state machine -/

/-- One tick takes one of six branches (R170). -/
theorem tick_cases (s : State) :
    (s.txActive = false ∧ tick s = s) ∨
    (s.txActive = true ∧ s.txCount = 0 ∧ s.txBit = s.txTotal ∧ tick s = finishTx s) ∨
    (s.txActive = true ∧ s.txCount = 0 ∧ s.txBit ≠ s.txTotal ∧ s.txPhase = .burst ∧ tick s = beginSilence s) ∨
    (s.txActive = true ∧ s.txCount = 0 ∧ s.txBit ≠ s.txTotal ∧ s.txPhase = .silence ∧ s.txStarted = false ∧
      tick s = loadStart s) ∨
    (s.txActive = true ∧ s.txCount = 0 ∧ s.txBit ≠ s.txTotal ∧ s.txPhase = .silence ∧ s.txStarted = true ∧
      tick s = loadBit s) ∨
    (s.txActive = true ∧ s.txCount ≠ 0 ∧ tick s = countDown s) := by
  cases ha : s.txActive with
  | false => exact .inl ⟨rfl, by simp [tick, ha]⟩
  | true =>
    by_cases hc : s.txCount = 0
    · by_cases hb : s.txBit = s.txTotal
      · exact .inr (.inl ⟨rfl, hc, hb, by simp [tick, ha, hc, hb]⟩)
      · cases hp : s.txPhase with
        | burst => exact .inr (.inr (.inl ⟨rfl, hc, hb, rfl, by simp [tick, ha, hc, hb, hp]⟩))
        | silence =>
          cases hst : s.txStarted with
          | false => exact .inr (.inr (.inr (.inl ⟨rfl, hc, hb, rfl, rfl, by simp [tick, ha, hc, hb, hp, hst]⟩)))
          | true =>
            exact .inr (.inr (.inr (.inr (.inl ⟨rfl, hc, hb, rfl, rfl, by simp [tick, ha, hc, hb, hp, hst]⟩))))
    · exact .inr (.inr (.inr (.inr (.inr ⟨rfl, hc, by simp [tick, ha, hc]⟩))))

/-! ### The events -/

theorem execEdge_cases {s t : State} (h : execEdge s = .next t) :
    (s.initialized = false ∧ t = s) ∨
    (s.initialized = true ∧ edgeEnabled s = false ∧ t = notEnabled .edge s) ∨
    (s.initialized = true ∧ edgeEnabled s = true ∧ s.rxPresent = true ∧ s.attached = true ∧ t = countEdge s) ∨
    (s.initialized = true ∧ edgeEnabled s = true ∧ (s.rxPresent && s.attached) = false ∧ t = s) := by
  unfold execEdge at h
  cases hi : s.initialized <;> cases he : edgeEnabled s <;> cases hr : s.rxPresent <;> cases ha : s.attached <;>
    simp_all

theorem execBurstAlarm_cases {s t : State} (h : execBurstAlarm s = .next t) :
    (burstEnabled s = true ∧ t = storeBurst s) ∨ (burstEnabled s = false ∧ t = notEnabled .burstAlarm s) := by
  unfold execBurstAlarm at h
  cases hb : burstEnabled s <;> simp_all

theorem execFrameAlarm_cases {s t : State} (h : execFrameAlarm s = .next t) :
    (frameEnabled s = true ∧ t = markFrameEnd s) ∨ (frameEnabled s = false ∧ t = notEnabled .frameAlarm s) := by
  unfold execFrameAlarm at h
  cases hb : frameEnabled s <;> simp_all

theorem execTxTick_cases {s t : State} (h : execTxTick s = .next t) :
    (tickEnabled s = true ∧ t = tick s) ∨ (tickEnabled s = false ∧ t = notEnabled .txTick s) := by
  unfold execTxTick at h
  cases hb : tickEnabled s <;> simp_all

theorem execTime_cases {u : Nat} {s t : State} (h : execTime u s = .next t) :
    (s.initialized = false ∧ t = s) ∨
    (s.initialized = true ∧ timeEnabled u s = true ∧ t = { s with now := u }) ∨
    (s.initialized = true ∧ timeEnabled u s = false ∧ t = notEnabled .time s) := by
  unfold execTime at h
  cases hi : s.initialized <;> cases he : timeEnabled u s <;> simp_all

/-! ### The step -/

/-- What a step can do (R66): idle, refuse the record, run the operation, or go on with the command. -/
theorem step_cases (s : State) :
    (s.micro = [] ∧ s.inbox = [] ∧ step s = .next s) ∨
    (s.micro = [] ∧ s.inbox ≠ [] ∧ decode s.inbox = none ∧ step s = .refused .reserved) ∨
    (∃ i r, s.micro = [] ∧ decode s.inbox = some (i, r) ∧ step s = exec i { s with inbox := r }) ∨
    (∃ ts, s.micro ≠ [] ∧ s.sched = .event :: ts ∧ s.inbox ≠ [] ∧ decode s.inbox = none ∧
      step s = .refused .reserved) ∨
    (∃ ts i r, s.micro ≠ [] ∧ s.sched = .event :: ts ∧ decode s.inbox = some (i, r) ∧ i.role ≠ .service ∧
      step s = exec i { s with sched := ts, inbox := r }) ∨
    (∃ ts, s.micro ≠ [] ∧ s.sched = .event :: ts ∧
      (s.inbox = [] ∨ ∃ i r, decode s.inbox = some (i, r) ∧ i.role = .service) ∧
      step s = .next (resume { s with sched := ts })) ∨
    (s.micro ≠ [] ∧ (∀ ts, s.sched ≠ .event :: ts) ∧ step s = .next (resume s)) := by
  cases hm : s.micro with
  | nil =>
    cases hb : s.inbox with
    | nil => exact .inl ⟨rfl, rfl, by simp [step, nextStep, stepFetch, hm, hb]⟩
    | cons x xs =>
      cases hd : decode s.inbox with
      | none =>
        rw [hb] at hd
        exact .inr (.inl ⟨rfl, by simp, hd, by simp [step, nextStep, stepFetch, fetch, hm, hb, hd]⟩)
      | some d =>
        rw [hb] at hd
        exact .inr (.inr (.inl ⟨d.1, d.2, rfl, hd, by simp [step, nextStep, stepFetch, fetch, hm, hb, hd]⟩))
  | cons m ms =>
    cases hs : s.sched with
    | nil => exact .inr (.inr (.inr (.inr (.inr (.inr ⟨by simp, by simp, by simp [step, nextStep, hm, hs]⟩)))))
    | cons u ts =>
      cases u with
      | service => exact .inr (.inr (.inr (.inr (.inr (.inr ⟨by simp, by simp, by simp [step, nextStep, hm, hs]⟩)))))
      | event =>
        cases hb : s.inbox with
        | nil =>
          exact .inr (.inr (.inr (.inr (.inr (.inl
            ⟨ts, by simp, rfl, .inl rfl, by simp [step, nextStep, stepGap, hm, hs, hb]⟩)))))
        | cons x xs =>
          cases hd : decode s.inbox with
          | none =>
            rw [hb] at hd
            exact .inr (.inr (.inr (.inl
              ⟨ts, by simp, rfl, by simp, hd, by simp [step, nextStep, stepGap, fetch, hm, hs, hb, hd]⟩)))
          | some d =>
            rw [hb] at hd
            by_cases hr : d.1.role = .service
            · exact .inr (.inr (.inr (.inr (.inr (.inl
                ⟨ts, by simp, rfl, .inr ⟨d.1, d.2, hd, hr⟩,
                  by simp [step, nextStep, stepGap, fetch, hm, hs, hb, hd, hr]⟩)))))
            · exact .inr (.inr (.inr (.inr (.inl
                ⟨ts, d.1, d.2, by simp, rfl, hd, hr, by simp [step, nextStep, stepGap, fetch, hm, hs, hb, hd, hr]⟩))))

end Sys2Proof.Machine
end

