-- ==== Sys2Proof/Laws/Buffers.lean ====
section
/-! SUPPORT. The three buffers keep their capacities (R61, R62, R63) through every operation that writes one. -/

namespace Sys2Proof.Machine

theorem captureReset_keeps_buffers {s : State} (h : BuffersOk s) : BuffersOk (captureReset s) :=
  ⟨by simp, h.2.1, h.2.2⟩

theorem storeBurst_keeps_buffers {s : State} (h : BuffersOk s) : BuffersOk (storeBurst s) :=
  ⟨by simpa using h.1, h.2.1, h.2.2⟩

theorem txWords_length (b : List Byte) : (txWords b).length = b.length + 1 := by simp [txWords]

theorem freeTxWords_length (p : Params) (k n : Nat) : (freeTxWords p k n).length = p.maxWordlen - n := by
  simp [freeTxWords]

theorem acceptSend_keeps_buffers {s : State} {b : List Byte} (h : BuffersOk s)
    (hb : b.length + 1 ≤ s.cfg.maxWordlen) : BuffersOk (acceptSend b s) := by
  refine ⟨h.1, ?_, h.2.2⟩
  simp [acceptSend, record, txWords_length, freeTxWords_length]
  omega

theorem finishTx_keeps_buffers {s : State} (h : BuffersOk s) : BuffersOk (finishTx s) :=
  ⟨h.1, by simp [finishTx, freeTxWords_length], h.2.2⟩

theorem freeFrameTail_length (p : Params) (k n : Nat) : (freeFrameTail p k n).length = p.maxWordlen - n := by
  simp [freeFrameTail]

theorem commitDecode_keeps_buffers {s : State} {n : Nat} {b : List Count} (h : BuffersOk s)
    (hd : (decodeFrame s.cfg n b).data.length ≤ s.cfg.maxWordlen) : BuffersOk (commitDecode n b s) := by
  refine ⟨h.1, h.2.1, ?_⟩
  simp [commitDecode, record, freeFrameTail_length]
  omega

theorem setupState_buffers (a b c : Bool) (s : State) : BuffersOk (setupState a b c s) := by
  simp [BuffersOk, setupState]

end Sys2Proof.Machine
end

