-- ==== Sys2Proof/Laws/PerInstr.lean ====
section
/-! SUPPORT. What is stated of every operation as syntax, one lemma for each constructor. -/

namespace Sys2Proof.Laws.RecordLength

/-- The length a decoder finds from a record's first three bytes is the record's length (R99). -/
def Statement (i : Instr) : Prop :=
  i.wf = true → ∀ r, recordLength (encode i ++ r) = (encode i).length

theorem edge : Statement .edge := fun _ _ => rfl
theorem burstAlarm : Statement .burstAlarm := fun _ _ => rfl
theorem frameAlarm : Statement .frameAlarm := fun _ _ => rfl
theorem txTick : Statement .txTick := fun _ _ => rfl
theorem setup (txPin txEnPin rxPin : Bool) : Statement (.setup txPin txEnPin rxPin) := fun _ _ => rfl
theorem service : Statement .service := fun _ _ => rfl
theorem read : Statement .read := fun _ _ => rfl
theorem active : Statement .active := fun _ _ => rfl

theorem send (b : List Byte) : Statement (.send b) := by
  intro h r
  have hb : b.length < 256 ^ 2 := by simpa [Instr.wf] using h
  have ho : Opcode.ofByte 0x13 = some .send := by decide
  have ht : (leBytes 2 b.length ++ b ++ r).take 2 = leBytes 2 b.length := by
    rw [List.append_assoc]; exact List.take_left' (by simp)
  simp only [encode, List.cons_append, recordLength, ho, ht, leNat_leBytes _ _ hb, List.length_cons,
    List.length_append, leBytes_length]
  omega

theorem sendHex (chars : List Byte) : Statement (.sendHex chars) := by
  intro h r
  have hb : chars.length < 256 ^ 2 := by simpa [Instr.wf] using h
  have ho : Opcode.ofByte 0x14 = some .sendHex := by decide
  have ht : (leBytes 2 chars.length ++ chars ++ r).take 2 = leBytes 2 chars.length := by
    rw [List.append_assoc]; exact List.take_left' (by simp)
  simp only [encode, List.cons_append, recordLength, ho, ht, leNat_leBytes _ _ hb, List.length_cons,
    List.length_append, leBytes_length]
  omega

theorem time (t : Nat) : Statement (.time t) := by
  intro _ r
  have ho : Opcode.ofByte 0x20 = some .time := by decide
  simp only [encode, List.cons_append, recordLength, ho, List.length_cons, leBytes_length]

end Sys2Proof.Laws.RecordLength
end

