-- ==== Sys2Proof/Tests/Slice0.lean ====
section
/-! SUPPORT. Tests and witnesses. Every expected value is written out from spec/95_test_vectors.md, or by hand from the
rule named; a `witness_<Name>` gives a state and operands that meet the hypotheses of the obligation `<Name>`. -/

namespace Sys2Proof.Tests

open Sys2Proof Sys2Proof.Machine

/-! ### WellFormed: a term for each check that the check refuses, and one at the bound that it accepts -/

theorem test_wf_send_too_long : (Instr.send (List.replicate 65536 0)).wf = false := by
  rw [Instr.wf, List.length_replicate]; decide

theorem test_wf_sendHex_too_long : (Instr.sendHex (List.replicate 65536 0x30)).wf = false := by
  rw [Instr.wf, List.length_replicate]; decide

theorem test_wf_time_too_late : (Instr.time (2 ^ 64)).wf = false := by decide

theorem test_wf_bounds_accepted : (Instr.send (List.replicate 65535 0)).wf = true ∧
    (Instr.sendHex (List.replicate 65535 0x30)).wf = true ∧ (Instr.time (2 ^ 64 - 1)).wf = true := by
  rw [Instr.wf, List.length_replicate, Instr.wf, List.length_replicate]; decide

/-! ### Decode: a word for every constructor (V-ENC-1 to V-ENC-9, V-ENC-14), and the refusals -/

theorem test_decode_interrupt : decode [0x01] = some (.edge, []) ∧ decode [0x02] = some (.burstAlarm, []) ∧
    decode [0x03] = some (.frameAlarm, []) ∧ decode [0x04] = some (.txTick, []) := by decide

theorem test_decode_host : decode [0x11] = some (.service, []) ∧ decode [0x12] = some (.read, []) ∧
    decode [0x15] = some (.active, []) := by decide

/-- V-ENC-4 and V-ARB-1: the five masks. -/
theorem test_decode_setup : decode [0x10, 0x07] = some (.setup true true true, []) ∧
    decode [0x10, 0x04] = some (.setup false false true, []) ∧
    decode [0x10, 0x03] = some (.setup true true false, []) ∧
    decode [0x10, 0x00] = some (.setup false false false, []) ∧
    decode [0x10, 0x05] = some (.setup true false true, []) := by decide

/-- V-ENC-5, V-ENC-6, and a record followed by another. -/
theorem test_decode_send : decode [0x13, 0x02, 0x00, 0x01, 0x02] = some (.send [0x01, 0x02], []) ∧
    decode [0x13, 0x00, 0x00] = some (.send [], []) ∧
    decode [0x13, 0x01, 0x00, 0x01, 0x15] = some (.send [0x01], [0x15]) := by decide

/-- V-ENC-7 and V-ENC-14. -/
theorem test_decode_sendHex :
    decode [0x14, 0x04, 0x00, 0x41, 0x31, 0x42, 0x32] = some (.sendHex [0x41, 0x31, 0x42, 0x32], []) ∧
    decode [0x14, 0x03, 0x00, 0x41, 0x31, 0x42] = some (.sendHex [0x41, 0x31, 0x42], []) := by decide

/-- V-ENC-8 and V-ENC-9, and a time whose highest byte is not 0. -/
theorem test_decode_time : decode [0x20, 0x64, 0, 0, 0, 0, 0, 0, 0] = some (.time 100, []) ∧
    decode [0x20, 0x88, 0x13, 0, 0, 0, 0, 0, 0] = some (.time 5000, []) ∧
    decode [0x20, 0, 0, 0, 0, 0, 0, 0, 0x80] = some (.time (2 ^ 63), []) := by decide

/-- V-ENC-10. -/
theorem test_decode_reserved :
    ∀ b ∈ ([0x00, 0x05, 0x0F, 0x16, 0x1F, 0x21, 0xFF] : List Byte), decode [b] = none := by decide

/-- V-ENC-11 (and the lowest reserved mask bit), V-ENC-12, V-ENC-13. -/
theorem test_decode_refused : decode [0x10, 0xF8] = none ∧ decode [0x10, 0x08] = none ∧
    decode [0x13, 0x02, 0x00, 0x01] = none ∧ decode [0x20, 0x01, 0x00] = none ∧ decode [0x10] = none := by decide

/-- The table numbers a record's bits from its first byte; operand bytes it gives no bits are 0. -/
theorem test_decodeTableWord : decodeTableWord 8 0x10 = some (.setup false false false) ∧
    decodeTableWord 16 0x0710 = some (.setup true true true) ∧ decodeTableWord 8 0x13 = some (.send []) ∧
    decodeTableWord 24 0x000213 = some (.send [0, 0]) ∧ decodeTableWord 8 0x20 = some (.time 0) ∧
    decodeTableWord 8 0x00 = none := by decide

theorem test_withFetchWord_runs_the_record :
    step (State.reset.withFetchWord 16 0x0710) = exec (.setup true true true) State.reset ∧
    step (State.reset.withFetchWord 8 0x12) = .refused .notSetup ∧
    step (State.reset.withFetchWord 8 0x00) = .refused .reserved := ⟨rfl, rfl, rfl⟩

/-! ### Single steps. `ready` is the state after SETUP tx,en,rx in TC. -/

/-- After SETUP tx,en,rx (R251, column "all pins"): power-on in this model already holds the zeros (log 5). -/
def ready : State :=
  { State.reset with initialized := true, rxPresent := true, txPresent := true, attached := true }

/-- The next state, if there is one. -/
def after (i : Instr) (s : State) : Option State :=
  match exec i s with
  | .next t => some t
  | _ => none

/-- The state after an edge at `now = 104`, as V-TIME-1 has it. -/
def edged : State :=
  { ready with
    now := 104
    receiving := true
    edgeCount := 3
    burstArmed := true
    burstDeadline := 124
    frameArmed := true
    frameDeadline := 374 }

/-- `edged` with both deadlines come, in the wrong order for FRAME_ALARM (V-TIME-4). -/
def bothDue : State := { edged with now := 374 }

/-- A burst stored, the frame-end alarm due (R117's example: `frame_deadline = 688`). -/
def frameDueState : State :=
  { ready with now := 688, receiving := true, burstIdx := 10, frameArmed := true, frameDeadline := 688 }

/-- Transmitting `[0x01]`: V-TX-1. -/
def sending : State :=
  { ready with
    attached := false
    txw := [0x001, 0x001, 0, 0]
    txTotal := 18
    txActive := true
    txGate := true
    busEnOut := true }

/-- V-TX-3 at the end of a burst phase (after tick 47). -/
def burstEnd : State :=
  { sending with txPhase := .burst, carrierOut := .on, txStarted := true, txBit := 1 }

/-- V-TX-3 at the end of the silence before bit 0 (after tick 39). -/
def silenceEnd : State := { sending with txStarted := true }

/-- V-TX-4 after tick 289. -/
def lastBurstEnd : State := { burstEnd with txBit := 18 }

/-- PendingReenable (R47), as the finish leaves it but for `TXW`. -/
def pending : State :=
  { sending with txActive := false, txFinished := true, txGate := false, busEnOut := false, txBit := 18 }

/-- R202's example: the zero-length frame captured and its boundary marked. -/
def captured : State :=
  { ready with
    frameEnd := true
    burstIdx := 10
    bursts := [30, 4, 4, 4, 4, 4, 4, 4, 4, 8] ++ List.replicate 26 0 }

/-- A valid frame waiting for READ (V-ARB-8). -/
def decoded : State :=
  { ready with frameReady := true, frame := { valid := true, len := 2, data := [0x01, 0x02, 0, 0] } }

/-- V-ARB-1, first row, and R251: SETUP leaves `ready`. -/
theorem test_setup_all_pins : exec (.setup true true true) State.reset = .next ready := rfl

/-- V-ARB-1, fourth row: both configuration faults are recorded, nothing is attached. -/
theorem test_setup_no_pins :
    (after (.setup false false false) State.reset).map (fun t => (t.attached, t.initialized, t.trace)) =
      some (false, true, [.outcome .cfgTxAbsent, .outcome .cfgRxAbsent]) := by decide

/-- V-RX-1. -/
theorem test_edge_first : after .edge { ready with now := 100 } = some
    { ready with
      now := 100, receiving := true, edgeCount := 1, burstArmed := true, burstDeadline := 120, frameArmed := true
      frameDeadline := 370 } := by decide

/-- V-RX-8 and V-RX-2. -/
theorem test_edge_wraps_and_is_lost : (after .edge { edged with edgeCount := 65535 }).map (·.edgeCount) = some 0 ∧
    after .edge { ready with attached := false } = some { ready with attached := false } := by decide

/-- R113's example. -/
theorem test_burstAlarm_stores :
    (after .burstAlarm { edged with now := 124, edgeCount := 30 }).map
        (fun t => (t.bursts.head?, t.edgeCount, t.burstIdx, t.burstArmed, t.frameArmed)) =
      some (some 30, 0, 1, false, true) := by decide

/-- V-RX-7: the 36th burst wraps the index. -/
theorem test_burstAlarm_wraps :
    (after .burstAlarm { edged with now := 124, edgeCount := 1, burstIdx := 35 }).map
        (fun t => (t.bursts[35]?, t.burstIdx)) =
      some (some 1, 0) := by decide

/-- R117's example. -/
theorem test_frameAlarm_marks :
    after .frameAlarm frameDueState =
      some { frameDueState with receiving := false, frameEnd := true, frameArmed := false } := by decide

/-- V-TIME-4: BURST_ALARM goes first, so FRAME_ALARM does not happen. -/
theorem test_frameAlarm_waits_for_burstAlarm :
    (after .frameAlarm bothDue).map (fun t => (t.frameEnd, t.frameArmed)) = some (false, true) ∧
    (after .burstAlarm bothDue).map (·.burstIdx) = some 1 := by decide

/-- V-TX-3, ticks 0, 1, 40 and 48. -/
theorem test_txTick_branches :
    (after .txTick sending).map (fun t => (t.txPhase, t.carrierOut, t.txCount, t.txBit, t.txStarted)) =
      some (.burst, .on, 29, 0, true) ∧
    (after .txTick { burstEnd with txCount := 29 }).map (fun t => (t.txPhase, t.carrierOut, t.txCount)) =
      some (.burst, .on, 28) ∧
    (after .txTick silenceEnd).map (fun t => (t.txPhase, t.carrierOut, t.txCount, t.txBit)) =
      some (.burst, .on, 7, 1) ∧
    (after .txTick burstEnd).map (fun t => (t.txPhase, t.carrierOut, t.txCount, t.txBit)) =
      some (.silence, .off, 9, 1) := by decide

/-- V-TX-4, tick 290, and V-TX-3, tick 58 (a 0 bit). -/
theorem test_txTick_finishes :
    (after .txTick lastBurstEnd).map
        (fun t => (t.carrierOut, t.busEnOut, t.txActive, t.txFinished, t.txGate, arbiter t)) =
      some (.off, false, false, true, false, .pendingReenable) ∧
    (after .txTick { silenceEnd with txBit := 1 }).map (fun t => (t.txCount, t.txBit)) = some (3, 2) := by decide

/-- R202's example. -/
theorem test_service_decodes :
    (after .service captured).map (fun t => (t.frame.valid, t.frame.len, t.frameReady, t.frameEnd, t.burstIdx)) =
      some (true, 0, true, false, 0) ∧
    (after .service captured).map (·.trace) = some [.outcome .ok] := by decide

/-- R203's example, V-ARB-7 (no RX subsystem) and V-ARB-5. -/
theorem test_service_reenables :
    (after .service pending).map (fun t => (t.attached, t.txFinished, arbiter t)) = some (true, false, .idle) ∧
    (after .service { pending with rxPresent := false }).map (fun t => (t.attached, t.txFinished)) =
      some (false, false) ∧
    after .service ready = some ready := by decide

/-- V-ARB-8 and V-ARB-3. -/
theorem test_read_once :
    (after .read decoded).map (fun t => (t.frameReady, t.trace)) =
      some (false, [.notified ['0', '1', '0', '2'],
        .readResult (some { valid := true, len := 2, data := [0x01, 0x02] })]) ∧
    (after .read ready).map (·.trace) = some [.readResult none] := by decide

/-- V-TX-1, V-TX-2: the words, the length, and what START_TIMER leaves. `TXW` above the words is free (U4). -/
theorem test_send_accepted :
    after (.send [0x01]) ready = some { sending with
      txw := [0x001, 0x001, Config.freeTxWord 0 2, Config.freeTxWord 0 3], freeCount := 1, trace := [.outcome .ok] } ∧
    (after (.send [0x01, 0x02]) ready).map (fun t => (t.txw.take 3, t.txTotal)) =
      some ([0x001, 0x002, 0x103], 27) := ⟨rfl, rfl⟩

/-- V-TX-5, V-TX-7, and P2's rejection in PendingReenable. -/
theorem test_send_rejected :
    (after (.send [0, 0, 0]) ready).map (·.txTotal) = some 36 ∧
    after (.send [0, 0, 0, 0]) ready = some { ready with trace := [.outcome .rejSize] } ∧
    after (.send [0, 0, 0, 0]) sending = some { sending with trace := [.outcome .rejBusy] } ∧
    after (.send [0x02]) pending = some { pending with trace := [.outcome .rejBusy] } := by decide

/-- V-HEX-1, V-HEX-4, V-HEX-6. -/
theorem test_sendHex_accepted :
    (after (.sendHex [0x41, 0x31, 0x42, 0x32]) ready).map (fun t => (t.txw.take 3, t.txTotal)) =
      some ([0x0A1, 0x1B2, 0x153], 27) ∧
    after (.sendHex [0x61, 0x31, 0x62, 0x32]) ready = after (.sendHex [0x41, 0x31, 0x42, 0x32]) ready ∧
    (after (.sendHex [0x41, 0x31, 0x42, 0x32, 0x43, 0x33]) ready).map (fun t => (t.txw, t.txTotal)) =
      some ([0x0A1, 0x1B2, 0x1C3, 0x016], 36) := ⟨rfl, rfl, rfl⟩

/-- V-HEX-2, V-HEX-3, V-HEX-7, V-HEX-8, V-HEX-9, V-HEX-10, V-HEX-11. -/
theorem test_sendHex_rejected :
    (after (.sendHex [0x41, 0x31, 0x42]) ready).map (·.trace) = some [.outcome .rejHexOdd] ∧
    (after (.sendHex [0x41, 0x31, 0x47, 0x32]) ready).map (·.trace) = some [.outcome .rejHexDigit] ∧
    (after (.sendHex [0x41, 0x31, 0x42, 0x32, 0x43, 0x33, 0x44, 0x34]) ready).map (·.trace) =
      some [.outcome .rejSize] ∧
    (after (.sendHex [0x41, 0x31, 0x42, 0x32, 0x43, 0x33, 0x44, 0x34, 0x45, 0x35]) ready).map (·.trace) =
      some [.outcome .rejHexLen] ∧
    (after (.sendHex [0x47]) ready).map (·.trace) = some [.outcome .rejHexDigit] ∧
    (after (.sendHex [0x41, 0x31, 0x20, 0x42, 0x32]) ready).map (·.trace) = some [.outcome .rejHexDigit] ∧
    (after (.sendHex [0x41, 0x31, 0x42, 0x32]) sending).map (·.trace) = some [.outcome .rejBusy] := by decide

/-- V-ARB-2, row by row. -/
theorem test_active_table :
    (after .active ready).map (·.trace) = some [.activeResult false] ∧
    (after .active edged).map (·.trace) = some [.activeResult true] ∧
    (after .active sending).map (·.trace) = some [.activeResult true] ∧
    (after .active pending).map (·.trace) = some [.activeResult true] := by decide

/-- V-TIME-1 and V-TIME-2. -/
theorem test_time_moves_to_the_deadline :
    after (.time 124) edged = some { edged with now := 124 } ∧
    (after (.time 125) edged).map (·.now) = some 104 ∧ (after (.time 103) edged).map (·.now) = some 104 ∧
    after (.time 104) edged = some edged := by decide

/-- V-TIME-3, V-TX-8 and the second SETUP of V-ARB-1. -/
theorem test_refusals :
    exec .service State.reset = .refused .notSetup ∧ exec (.time 1000) State.reset = .next State.reset ∧
    exec (.send [0x01]) { ready with txPresent := false } = .refused .txAbsent ∧
    exec (.setup true true true) ready = .refused .resetup := ⟨rfl, rfl, rfl, rfl⟩

/-- R221: the codes of the outcomes. -/
theorem test_outcome_codes :
    ([.ok, .rejBusy, .rejSize, .rejHexDigit, .rejHexOdd, .rejHexLen] ++
      [.decStart, .decLength, .decParity, .decChecksum, .cfgRxAbsent, .cfgTxAbsent] : List OutcomeCode).map
        OutcomeCode.code =
      [0x00, 0x01, 0x02, 0x03, 0x04, 0x05, 0x10, 0x11, 0x12, 0x13, 0x20, 0x21] := by decide

/-! ### Functions: V-PAR-1, V-CKS-1, V-DEC -/

/-- V-PAR-1, the whole table. -/
theorem test_packWord :
    ([0x00, 0x01, 0x02, 0x03, 0x07, 0x16, 0x53, 0x7F, 0x80, 0xA1, 0xB2, 0xC3, 0xFF] : List Byte).map packWord =
      [0x100, 0x001, 0x002, 0x103, 0x007, 0x016, 0x153, 0x07F, 0x080, 0x0A1, 0x1B2, 0x1C3, 0x1FF] := by decide

/-- V-CKS-1, the whole table. -/
theorem test_checksum :
    ([[], [0x01], [0x01, 0x02], [0xA1, 0xB2], [0xFF, 0x01], [0x80, 0x80], [0x02, 0x01]] : List (List Byte)).map
        checksum =
      [0x00, 0x01, 0x03, 0x53, 0x00, 0x00, 0x03] := by decide

/-- The zero-length frame `Z(s, c)` of 95_test_vectors.md section 3.3. -/
def zeroFrame (s c : Count) : List Count := [s, 4, 4, 4, 4, 4, 4, 4, 4, c]

/-- V-DEC-2 to V-DEC-8b and V-DEC-13. -/
theorem test_decodeFrame_short :
    decodeFrame Params.tc 0 [] = .failed .decStart ∧ decodeFrame Params.tc 1 [30] = .failed .decLength ∧
    decodeFrame Params.tc 1 [0] = .failed .decStart ∧
    decodeFrame Params.tc 10 (zeroFrame 24 8) = .failed .decStart ∧
    decodeFrame Params.tc 10 (zeroFrame 25 8) = .ok [] ∧ decodeFrame Params.tc 10 (zeroFrame 40 8) = .ok [] ∧
    decodeFrame Params.tc 10 (zeroFrame 41 8) = .failed .decStart ∧
    decodeFrame Params.tc 10 (zeroFrame 30 5) = .failed .decParity ∧
    decodeFrame Params.tc 10 (zeroFrame 30 6) = .ok [] ∧
    decodeFrame Params.tc 11 (zeroFrame 30 8 ++ [4]) = .failed .decLength := by
  refine ⟨?_, ?_, ?_, ?_, ?_, ?_, ?_, ?_, ?_, ?_⟩ <;> decide

/-- The bursts of W7: the frame of `[0x01, 0x02]`. -/
def w7 : List Count :=
  [30, 8, 4, 4, 4, 4, 4, 4, 4, 4] ++ [4, 8, 4, 4, 4, 4, 4, 4, 4] ++ [8, 8, 4, 4, 4, 4, 4, 4, 8]

/-- The list of V-DEC-10: the checksum word `0x007`. -/
def wrongSum : List Count :=
  [30, 8, 4, 4, 4, 4, 4, 4, 4, 4] ++ [4, 8, 4, 4, 4, 4, 4, 4, 4] ++ [8, 8, 8, 4, 4, 4, 4, 4, 4]

/-- The list of V-DEC-11: the two data words exchanged. -/
def swapped : List Count :=
  [30, 4, 8, 4, 4, 4, 4, 4, 4, 4] ++ [8, 4, 4, 4, 4, 4, 4, 4, 4] ++ [8, 8, 4, 4, 4, 4, 4, 4, 8]

/-- V-DEC-1, V-DEC-9, V-DEC-10, V-DEC-11; and the frame the sender's rules give is W7's. -/
theorem test_decodeFrame_two_bytes :
    decodeFrame Params.tc 28 w7 = .ok [0x01, 0x02] ∧ decodeFrame Params.tc 28 (w7.set 2 8) = .failed .decParity ∧
    decodeFrame Params.tc 28 wrongSum = .failed .decChecksum ∧
    decodeFrame Params.tc 28 swapped = .ok [0x02, 0x01] ∧ frameCounts Params.tc [0x01, 0x02] = w7 := by
  refine ⟨?_, ?_, ?_, ?_, ?_⟩ <;> decide

/-- V-TX-9: the finish tick `F` is one less than the number of ticks. -/
theorem test_finishTick :
    ([[], [0x01], [0xA1], [0x01, 0x02], [0xFF, 0x01], [0, 0, 0]] : List (List Byte)).map
        (fun b => finishTick Params.tc (txBits (txWords b) ((b.length + 1) * 9)) + 1) =
      [161, 291, 307, 429, 453, 551] := by decide

/-! ### The gaps between micro-steps -/

/-- SEND `[0x01]` accepted, with the gap before M2 given to an event, and an EDGE next on the line (R201 corner case
(c)). -/
def inGap : State :=
  { ready with
    txw := [0x001, 0x001, 0, 0]
    txTotal := 18
    txActive := true
    micro := startTimer true
    sched := [.event]
    inbox := [0x01]
    trace := [.outcome .ok] }

theorem test_send_stops_at_a_gap :
    after (.send [0x01]) { ready with sched := [.event], inbox := [0x01] } = some { inGap with
      txw := [0x001, 0x001, Config.freeTxWord 0 2, Config.freeTxWord 0 3], freeCount := 1 } := rfl

/-- R201 corner case (c): the edge in the gap is captured, and the command has not moved. -/
theorem test_edge_in_a_gap :
    step inGap = .next { inGap with
      inbox := [], sched := [], receiving := true, edgeCount := 1, burstArmed := true, burstDeadline := 20
      frameArmed := true, frameDeadline := 270 } := rfl

/-! ### Witnesses: states that meet the invariant -/

theorem tc_ok : Params.tc.Ok := by decide

theorem inv_of_idle {s : State} (hc : s.cfg.Ok) (hm : s.micro = []) (hb : BuffersOk s) (hr : ReceiveOk s)
    (hf : FrameOk s) (ht : TransmitOk s) (ho : OutputsOk s) (ha : ArbiterOk s) : Inv s :=
  ⟨hc, fun _ => hm, fun _ => ⟨hb, hr, hf, ht, ho, Or.inl hm, ha⟩⟩

theorem ready_inv : Inv ready := by
  apply inv_of_idle tc_ok rfl
  all_goals simp only [BuffersOk, ReceiveOk, FrameOk, TransmitOk, OutputsOk, ArbiterOk]; decide

theorem edged_inv : Inv { edged with now := 124 } := by
  apply inv_of_idle tc_ok rfl
  all_goals simp only [BuffersOk, ReceiveOk, FrameOk, TransmitOk, OutputsOk, ArbiterOk]; decide

theorem frameDueState_inv : Inv frameDueState := by
  apply inv_of_idle tc_ok rfl
  all_goals simp only [BuffersOk, ReceiveOk, FrameOk, TransmitOk, OutputsOk, ArbiterOk]; decide

theorem sending_inv : Inv sending := by
  apply inv_of_idle tc_ok rfl
  all_goals simp only [BuffersOk, ReceiveOk, FrameOk, TransmitOk, OutputsOk, ArbiterOk]; decide

theorem pending_inv : Inv pending := by
  apply inv_of_idle tc_ok rfl
  all_goals simp only [BuffersOk, ReceiveOk, FrameOk, TransmitOk, OutputsOk, ArbiterOk]; decide

theorem inGap_inv : Inv inGap := by
  refine ⟨tc_ok, by decide, fun _ => ⟨?_, ?_, ?_, ?_, ?_, Or.inr (Or.inr (Or.inl (by decide))), ?_⟩⟩
  all_goals simp only [BuffersOk, ReceiveOk, FrameOk, TransmitOk, OutputsOk, ArbiterOk]; decide

/-- SERVICE in PendingReenable, stopped before E2 of RX_ENABLE. -/
def reenabling : State := { pending with micro := [.attach, .captureReset, .clearFinished] }

theorem reenabling_inv : Inv reenabling := by
  refine ⟨tc_ok, by decide, fun _ => ⟨?_, ?_, ?_, ?_, ?_, Or.inr (Or.inr (Or.inr (Or.inl (by decide)))), ?_⟩⟩
  all_goals simp only [BuffersOk, ReceiveOk, FrameOk, TransmitOk, OutputsOk, ArbiterOk]; decide

/-- SEND `[0x01]` stopped before M6 of START_TIMER: the bus is driven, the gate still closed. -/
def driving : State := { sending with micro := [.openGate], txGate := false }

theorem driving_inv : Inv driving := by
  refine ⟨tc_ok, by decide, fun _ => ⟨?_, ?_, ?_, ?_, ?_, Or.inr (Or.inr (Or.inl (by decide))), ?_⟩⟩
  all_goals simp only [BuffersOk, ReceiveOk, FrameOk, TransmitOk, OutputsOk, ArbiterOk]; decide

/-! ### Witnesses: the hypotheses of each obligation, clause by clause -/

theorem witness_DecodeInvertsEncode :
    (Instr.send []).wf = true ∧ (Instr.time (2 ^ 64 - 1)).wf = true ∧ (Instr.setup true false true).wf = true := by
  decide

theorem witness_DecodeAcceptsOnlyRecords : decode [0x13, 0x01, 0x00, 0x2A, 0x11] = some (.send [0x2A], [0x11]) := by
  decide

theorem witness_ReservedRecordsAreRefused :
    (0x05 : Byte).toNat ∉ [0x01, 0x02, 0x03, 0x04, 0x10, 0x11, 0x12, 0x13, 0x14, 0x15, 0x20] ∧
    8 ≤ (0x08 : Byte).toNat ∧ ((Instr.time 0).wf = true ∧ 8 < (encode (.time 0)).length) ∧
    ({ ready with inbox := [0x00] } : State).micro = [] ∧ ({ ready with inbox := [0x00] } : State).inbox ≠ [] ∧
    decode ({ ready with inbox := [0x00] } : State).inbox = none ∧ inGap.sched = .event :: [] := by decide

theorem witness_StepRunsTheDecodedOperation :
    decode ({ ready with inbox := [0x15] } : State).inbox = some (.active, []) ∧
    ({ ready with inbox := [0x15] } : State).micro = [] ∧
    decode inGap.inbox = some (.edge, []) ∧ inGap.micro ≠ [] ∧ inGap.sched = .event :: [] ∧
    Instr.edge.role ≠ .service ∧ Instr.active.role = .service ∧
    ∀ ts, ({ inGap with sched := [] } : State).sched ≠ .event :: ts := by
  refine ⟨?_, ?_, ?_, ?_, ?_, ?_, ?_, ?_⟩ <;> first | decide | (intro ts h; cases h)

/-- A SEND, where a TX subsystem is there, and a step with an empty inbox in a gap. -/
theorem witness_EveryStepAnswersNextOrARefusalOfTheTable :
    (ready.initialized = true ∧ decode ({ ready with inbox := [0x13, 0x00, 0x00] } : State).inbox = some (.send [], []) ∧
      isSetup (.send []) = false ∧ ready.txPresent = true) ∧
    ({ inGap with inbox := [] } : State).inbox = [] := by decide

theorem witness_EveryGapIsOpenToEvents :
    inGap.micro = .captureReset :: [.detach, .captureReset, .driveBus, .openGate] ∧ inGap.sched = .event :: [] ∧
    ({ inGap with sched := [.service, .event] } : State).sched = .service :: .event :: [] := by decide


theorem witness_RefusalsAreTheFourOfTheTable : State.reset.initialized = false := by decide

theorem witness_EnablingConditionsAsStated : ready.initialized = true := by decide

theorem witness_EventsNotEnabledDoNotHappen :
    edgeEnabled bothDue = false ∧ burstEnabled edged = false ∧ frameEnabled bothDue = false ∧
    tickEnabled ready = false ∧ timeEnabled 125 edged = false ∧ timeEnabled 103 edged = false ∧
    bothDue.initialized = true ∧ edged.initialized = true := by decide

theorem witness_DueAlarmsGoFirst :
    (Inv { edged with now := 124 } ∧ edged.burstArmed = true ∧ edged.burstDeadline ≤ 124) ∧
    (Inv frameDueState ∧ frameDueState.frameArmed = true ∧ frameDueState.frameDeadline ≤ frameDueState.now) :=
  ⟨⟨edged_inv, by decide, by decide⟩, frameDueState_inv, by decide, by decide⟩

/-- At the deadline itself; one past it, and one before `now`; and before SETUP. -/
theorem witness_TimeMovesNowOnly :
    edged.initialized = true ∧ edged.now ≤ 124 ∧ (edged.burstArmed = true → 124 ≤ edged.burstDeadline) ∧
    (edged.frameArmed = true → 124 ≤ edged.frameDeadline) ∧ (edged.burstArmed = true ∧ edged.burstDeadline < 125) ∧
    103 < edged.now ∧ (frameDueState.frameArmed = true ∧ frameDueState.frameDeadline < 689) ∧
    State.reset.initialized = false := by decide

/-- One count before the burst-end deadline, and at it; the detached block; before SETUP. -/
theorem witness_EdgeCountsAndRearmsBothAlarms :
    (State.reset.initialized = false) ∧
    (({ edged with now := 123 } : State).initialized = true ∧
      ¬(edged.burstArmed = true ∧ edged.burstDeadline ≤ 123) ∧
      ¬(edged.frameArmed = true ∧ edged.frameDeadline ≤ 123) ∧
      edged.rxPresent = true ∧ edged.attached = true) ∧
    sending.attached = false ∧ (edged.burstArmed = true ∧ edged.burstDeadline ≤ 124) ∧
    (frameDueState.frameArmed = true ∧ frameDueState.frameDeadline ≤ frameDueState.now) := by decide

/-- At the deadline, and one count before it. -/
theorem witness_BurstAlarmStoresAndAdvances :
    ({ edged with now := 124 } : State).initialized = true ∧ edged.burstArmed = true ∧ edged.burstDeadline ≤ 124 ∧
    ¬(edged.initialized = true ∧ edged.burstArmed = true ∧ edged.burstDeadline ≤ 123) ∧ edged.burstDeadline < 125 := by
  decide

theorem witness_FrameAlarmMarksTheBoundary :
    frameDueState.initialized = true ∧ frameDueState.frameArmed = true ∧
    frameDueState.frameDeadline ≤ frameDueState.now ∧
    ¬(frameDueState.burstArmed = true ∧ frameDueState.burstDeadline ≤ frameDueState.now ∧
      frameDueState.burstDeadline ≤ frameDueState.frameDeadline) ∧
    (bothDue.burstArmed = true ∧ bothDue.burstDeadline ≤ bothDue.now ∧
      bothDue.burstDeadline ≤ bothDue.frameDeadline) ∧
    ¬(edged.initialized = true ∧ edged.frameArmed = true ∧ edged.frameDeadline ≤ edged.now) ∧
    frameDueState.frameDeadline < 689 := by
  refine ⟨?_, ?_, ?_, ?_, ?_, ?_, ?_⟩ <;> decide

theorem witness_LastBurstIsStoredBeforeFrameEnd : Inv frameDueState ∧ frameEnabled frameDueState = true :=
  ⟨frameDueState_inv, by decide⟩

/-- A burst stored, and the frame-end alarm one count from its deadline. -/
def betweenBursts : State := { frameDueState with now := 687 }

theorem betweenBursts_inv : Inv betweenBursts := by
  apply inv_of_idle tc_ok rfl
  all_goals simp only [BuffersOk, ReceiveOk, FrameOk, TransmitOk, OutputsOk, ArbiterOk]; decide

/-- Gaps of 0 and of `T_BIT - 1`, for a first burst and for a later one. -/
theorem witness_EdgeTrainGivesOneBurst :
    (ready.initialized = true ∧ ready.rxPresent = true ∧ ready.attached = true ∧ ready.burstArmed = false ∧
      ready.frameArmed = false ∧ ready.edgeCount = 0 ∧ ∀ g ∈ [0, 19], g < ready.cfg.tBit) ∧ ready.cfg.Ok ∧
    (betweenBursts.initialized = true ∧ betweenBursts.rxPresent = true ∧ betweenBursts.attached = true ∧
      betweenBursts.burstArmed = false ∧ betweenBursts.frameArmed = true ∧
      betweenBursts.now < betweenBursts.frameDeadline ∧ betweenBursts.edgeCount = 0) := by
  refine ⟨?_, ?_, ?_⟩ <;> decide

/-- `edged` with R120's parameter true. -/
def disarming : State := { edged with cfg := { Params.tc with resetDisarmsAlarms := true } }

/-- At the burst-end deadline itself (V-RX-9's alarms), with no burst-end alarm armed (V-RX-10), and with
`RESET_DISARMS_ALARMS`. -/
theorem witness_StaleAlarmsFireIntoTheClearedCapture :
    (edged.cfg.Ok ∧ edged.initialized = true ∧ edged.cfg.resetDisarmsAlarms = false ∧ edged.rxPresent = true ∧
      edged.sched = []) ∧
    (Inv { edged with now := 124 } ∧ edged.burstArmed = true ∧ edged.frameArmed = true ∧ edged.burstDeadline ≤ 124 ∧
      124 ≤ edged.burstDeadline ∧ edged.burstDeadline ≤ edged.frameDeadline) ∧
    (Inv betweenBursts ∧ betweenBursts.burstArmed = false ∧ betweenBursts.frameArmed = true ∧
      betweenBursts.now ≤ betweenBursts.frameDeadline) ∧
    disarming.cfg.Ok ∧ disarming.cfg.resetDisarmsAlarms = true ∧ disarming.now ≤ 5000 := by
  refine ⟨by decide, ⟨edged_inv, ?_⟩, ⟨betweenBursts_inv, ?_⟩, ?_, ?_, ?_⟩ <;> decide

/-- A run of RX_DISABLE in which an edge falls after X1, and one in which it falls before X2 alone. -/
theorem witness_DisableEndsAlikeWithoutItsEntryReset :
    (∃ t, DisableEnds true ready t) ∧ ∃ t, DisableEnds false ready t :=
  ⟨⟨_, [.edge], [], _, _, by decide, rfl, rfl, rfl, rfl⟩, ⟨_, [.edge], [], _, _, by decide, rfl, rfl, rfl, rfl⟩⟩

theorem witness_ChecksumIsTheSumModulo256 : ([0x01, 0x02] : List Byte).Perm [0x02, 0x01] := by decide

/-- Both bounds of the start range, from either side; no length `1 + 9k`. -/
theorem witness_DecodeByItsRule_start_and_length :
    ¬(Params.tc.startMin ≤ ((zeroFrame 24 8).getD 0 0).toNat) ∧
    ¬(((zeroFrame 41 8).getD 0 0).toNat ≤ Params.tc.startMax) ∧
    (Params.tc.startMin ≤ ((zeroFrame 25 8).getD 0 0).toNat ∧ ((zeroFrame 25 8).getD 0 0).toNat ≤ Params.tc.startMax) ∧
    ((zeroFrame 40 8).getD 0 0).toNat ≤ Params.tc.startMax ∧ ∀ k, 1 ≤ k → (9 : Nat) ≠ 1 + 9 * k := by
  refine ⟨by decide, by decide, by decide, by decide, fun k hk => by omega⟩

/-- One word with even parity (V-DEC-8), one with odd parity and a wrong checksum, and one that decodes (V-DEC-6). -/
theorem witness_DecodeByItsRule_words :
    (∀ i, i < 9 → (0x000 : Word9).getLsbD i = classify Params.tc ((zeroFrame 30 5).getD (1 + 9 * 0 + i) 0)) ∧
    popcount (0x000 : Word9) % 2 = 0 ∧
    (∀ i, i < 9 → (0x007 : Word9).getLsbD i =
      classify Params.tc (([30, 8, 8, 8, 4, 4, 4, 4, 4, 4] : List Count).getD (1 + 9 * 0 + i) 0)) ∧
    popcount (0x007 : Word9) % 2 = 1 ∧ (0x007 : Word9).setWidth 8 ≠ checksum [] ∧
    (∀ i, i < 9 → (0x100 : Word9).getLsbD i = classify Params.tc ((zeroFrame 25 8).getD (1 + 9 * 0 + i) 0)) ∧
    popcount (0x100 : Word9) % 2 = 1 ∧ (0x100 : Word9).setWidth 8 = checksum [] := by
  refine ⟨?_, ?_, ?_, ?_, ?_, ?_, ?_, ?_⟩ <;> decide

/-- RT-a and RT-b in TC (95_test_vectors.md section 1.3). -/
theorem witness_DecodeOfSentFrameIsTheBytes :
    startOk Params.tc (BitVec.ofNat 16 (Params.tc.nStart + 1)) = true ∧
    classify Params.tc (BitVec.ofNat 16 (Params.tc.nZero + 1)) = false ∧
    classify Params.tc (BitVec.ofNat 16 (Params.tc.nOne + 1)) = true := by decide

/-- The first and the last bit of W7. -/
theorem witness_OneFlippedBitFailsTheParity :
    decodeFrame Params.tc 28 w7 = .ok [0x01, 0x02] ∧ 28 ≤ w7.length ∧
    classify Params.tc 4 ≠ classify Params.tc (w7.getD 1 0) ∧
    classify Params.tc 4 ≠ classify Params.tc (w7.getD 27 0) := by decide

theorem witness_WrongChecksumWordIsFound :
    (0x07 : Byte) ≠ checksum [0x01, 0x02] ∧ startOk Params.tc (wrongSum.getD 0 0) = true ∧
    ∀ j, j ≤ 2 → ∀ i, i < 9 → classify Params.tc (wrongSum.getD (1 + 9 * j + i) 0) =
      ((([0x01, 0x02] : List Byte).map packWord ++ [packWord 0x07]).getD j 0).getLsbD i := by
  refine ⟨?_, ?_, ?_⟩ <;> decide

/-- The longest frame a capture can hold: `MAX_WORDLEN - 2` bytes. -/
theorem witness_DecodedLengthIsBounded :
    28 ≤ Params.tc.rxCap - 1 ∧ decodeFrame Params.tc 28 w7 = .ok [0x01, 0x02] := by decide

theorem witness_MergedFramesFailTheLength : startOk Params.tc (w7.getD 0 0) = true := by decide

/-- The longest send (V-TX-5). -/
theorem witness_SendIsAcceptedAndStarts :
    ready.initialized = true ∧ ready.txPresent = true ∧ ready.txActive = false ∧ ready.txFinished = false ∧
    ([0, 0, 0] : List Byte).length ≤ ready.cfg.maxWordlen - 1 ∧ ready.sched = [] := by decide

theorem witness_SendStartsForEverySchedule :
    ready.initialized = true ∧ ready.txPresent = true ∧ ready.txActive = false ∧ ready.txFinished = false ∧
    ([] : List Byte).length ≤ ready.cfg.maxWordlen - 1 := by decide

theorem witness_RejectedSendChangesNothing :
    (sending.initialized = true ∧ sending.txPresent = true ∧ sending.txActive = true) ∧
    (pending.initialized = true ∧ pending.txPresent = true ∧ pending.txFinished = true) ∧
    (ready.txActive = false ∧ ready.txFinished = false ∧
      ready.cfg.maxWordlen - 1 < ([0, 0, 0, 0] : List Byte).length ∧
      ([0, 0, 0] : List Byte).length ≤ ready.cfg.maxWordlen - 1) ∧
    State.reset.initialized = false ∧ ({ ready with txPresent := false } : State).txPresent = false := by
  refine ⟨?_, ?_, ?_, ?_, ?_⟩ <;> decide

/-- V-HEX-3, V-HEX-2, V-HEX-8, and the longest string that decodes (V-HEX-7). -/
theorem witness_HexDecodeByItsRule :
    (∃ x ∈ ([0x41, 0x31, 0x47, 0x32] : List Byte), hexVal x = none) ∧
    (∀ x ∈ ([0x41, 0x31, 0x42] : List Byte), hexVal x ≠ none) ∧ ([0x41, 0x31, 0x42] : List Byte).length % 2 = 1 ∧
    (∀ x ∈ List.replicate 10 (0x46 : Byte), hexVal x ≠ none) ∧
    Params.tc.maxWordlen < (List.replicate 10 (0x46 : Byte)).length / 2 ∧
    (∀ x ∈ List.replicate 8 (0x66 : Byte), hexVal x ≠ none) ∧
    (List.replicate 8 (0x66 : Byte)).length / 2 ≤ Params.tc.maxWordlen := by
  refine ⟨?_, ?_, ?_, ?_, ?_, ?_, ?_⟩ <;> decide

theorem witness_HexDecodeInvertsHexEncode : ([0xA1, 0xB2, 0xC3, 0x16] : List Byte).length ≤ Params.tc.maxWordlen := by
  decide

theorem witness_SendHexIsSendOfTheBytes :
    ready.initialized = true ∧ ready.txPresent = true ∧
    (hexDecode ready.cfg [0x41, 0x31] = .ok [0xA1]) ∧
    (ready.txActive = false ∧ ready.txFinished = false ∧ ([0xA1] : List Byte).length ≤ ready.cfg.maxWordlen - 1 ∧
      ready.sched = []) ∧
    hexDecode ready.cfg [0x41] = .error .rejHexOdd ∧ State.reset.initialized = false ∧
    ({ ready with txPresent := false } : State).txPresent = false := by
  refine ⟨?_, ?_, rfl, ?_, rfl, ?_, ?_⟩ <;> decide

theorem witness_TickBranchesBeforeTheFinish :
    (burstEnd.initialized = true ∧ burstEnd.txPresent = true ∧ burstEnd.txGate = true) ∧
    (burstEnd.txActive = true ∧ burstEnd.txCount = 0 ∧ burstEnd.txBit ≠ burstEnd.txTotal ∧
      burstEnd.txPhase = .burst) ∧
    (sending.txActive = true ∧ sending.txCount = 0 ∧ sending.txBit ≠ sending.txTotal ∧
      sending.txPhase = .silence ∧ sending.txStarted = false) ∧
    (silenceEnd.txCount = 0 ∧ silenceEnd.txBit ≠ silenceEnd.txTotal ∧ silenceEnd.txPhase = .silence ∧
      silenceEnd.txStarted = true) ∧
    ({ burstEnd with txCount := 1 } : State).txCount ≠ 0 ∧ ({ ready with txGate := true } : State).txActive = false := by
  refine ⟨?_, ?_, ?_, ?_, ?_, ?_⟩ <;> decide

theorem witness_FinishTickDefersTheReenable :
    lastBurstEnd.initialized = true ∧ lastBurstEnd.txPresent = true ∧ lastBurstEnd.txGate = true ∧
    lastBurstEnd.txActive = true ∧ lastBurstEnd.txCount = 0 ∧ lastBurstEnd.txBit = lastBurstEnd.txTotal ∧
    ∃ t, exec .txTick lastBurstEnd = .next t := by
  refine ⟨?_, ?_, ?_, ?_, ?_, ?_, _, rfl⟩ <;> decide

theorem witness_PhaseCountsDownOverItsLoad :
    ({ burstEnd with txCount := 29 } : State).initialized = true ∧ burstEnd.txPresent = true ∧
    burstEnd.txGate = true ∧ burstEnd.txActive = true := by decide

theorem witness_TransmissionFinishesOnTickF :
    sending.initialized = true ∧ sending.txPresent = true ∧ sending.txGate = true ∧ sending.txActive = true ∧
    sending.txStarted = false ∧ sending.txPhase = .silence ∧ sending.txCount = 0 ∧ sending.txBit = 0 ∧
    0 < sending.txTotal := by
  refine ⟨?_, ?_, ?_, ?_, ?_, ?_, ?_, ?_, ?_⟩ <;> decide

theorem witness_TransmissionIsNotCancelled :
    Inv sending ∧ sending.initialized = true ∧ sending.txActive = true ∧ Instr.send [0x02] ≠ .txTick ∧
    exec (.send [0x02]) sending = .next { sending with trace := [.outcome .rejBusy] } ∧
    Inv inGap ∧ inGap.initialized = true ∧ inGap.txActive = true :=
  ⟨sending_inv, by decide, by decide, by decide, rfl, inGap_inv, by decide, by decide⟩

/-- An accepted SEND from Idle, and SERVICE in PendingReenable; a READ for the last clause of the first part. -/
theorem witness_ArbiterHasThreeTransitions :
    (Inv ready ∧ ∃ t, exec (.send [0x01]) ready = .next t) ∧
    (Inv pending ∧ ∃ t, exec .service pending = .next t) ∧
    exec .read ready = .next { ready with trace := [.readResult none] } ∧ isSend .read = false ∧
    Inv reenabling ∧ reenabling.initialized = true :=
  ⟨⟨ready_inv, _, rfl⟩, ⟨pending_inv, _, rfl⟩, rfl, rfl, reenabling_inv, rfl⟩

theorem witness_ServiceDecodesThenReenables : captured.initialized = true ∧ captured.sched = [] := by decide

theorem witness_ServiceStartsForEverySchedule :
    ({ captured with sched := [.service, .event] } : State).initialized = true := by decide

theorem witness_ReadHandsOutTheFrameOnce :
    decoded.initialized = true ∧ decoded.frameReady = true ∧ ready.initialized = true ∧ ready.frameReady = false ∧
    State.reset.initialized = false := by decide

/-- RT-a to RT-e in TC, with the most bytes RT-d allows. -/
theorem witness_ReceivedFrameIsReadBack :
    (ready.cfg.Ok ∧ BuffersOk ready) ∧
    (ready.initialized = true ∧ ready.rxPresent = true ∧ ready.attached = true ∧ ready.frameEnd = false) ∧
    (ready.burstIdx = 0 ∧ ready.edgeCount = 0 ∧ ready.burstArmed = false ∧ ready.frameArmed = false) ∧
    (ready.txActive = false ∧ ready.txFinished = false ∧ ready.micro = [] ∧ ready.sched = []) ∧
    (startOk ready.cfg (BitVec.ofNat 16 (ready.cfg.nStart + 1)) = true ∧
      classify ready.cfg (BitVec.ofNat 16 (ready.cfg.nZero + 1)) = false ∧
      classify ready.cfg (BitVec.ofNat 16 (ready.cfg.nOne + 1)) = true) ∧
    (2 < ready.cfg.tBit ∧ ready.cfg.tBit ≤ 2 * (ready.cfg.nSilence + 2) ∧
      2 * (ready.cfg.nSilence + 2) < ready.cfg.tFrame) ∧
    ([0x01, 0x02] : List Byte).length + 2 ≤ ready.cfg.maxWordlen := by
  refine ⟨⟨tc_ok, ?_⟩, ?_, ?_, ?_, ?_, ?_, ?_⟩
  · simp only [BuffersOk]; decide
  all_goals decide

theorem witness_ActiveReportsEitherDirection :
    pending.initialized = true ∧ State.reset.initialized = false := by decide

theorem witness_SetupGivesEveryElementItsValue :
    State.reset.initialized = false ∧ State.reset.sched = [] := by decide

theorem witness_BeforeSetupOnlySetupActs :
    State.reset.initialized = false ∧ isSetup .edge = false ∧ exec .edge State.reset = .next State.reset :=
  ⟨by decide, by decide, rfl⟩

theorem witness_OnlyTheListedOperationsWrite :
    exec .active ready = .next { ready with trace := [.activeResult false] } ∧ isSetup .active = false ∧
    isTime .active = false ∧ isSend .active = false ∧ Micro.checkFinished ∉ [Micro.driveBus, .openGate] ∧
    Micro.driveBus ∉ reenabling.micro ∧ Micro.openGate ∉ reenabling.micro ∧
    (∀ n b, Micro.decode n b ∉ reenabling.micro) ∧ Micro.attach ∉ inGap.micro := by
  refine ⟨rfl, rfl, rfl, rfl, by decide, by decide, by decide, ?_, by decide⟩
  simp [reenabling]

theorem witness_InterruptRoleKeepsOut :
    Instr.burstAlarm.role = .interrupt ∧ (∃ t, exec .burstAlarm { pending with burstArmed := true } = .next t) ∧
    pending.txFinished = true := ⟨rfl, ⟨_, rfl⟩, rfl⟩

theorem witness_InvariantHoldsAtPowerOn : Params.tc.Ok := tc_ok

/-- Between commands, and in a gap of START_TIMER. -/
theorem witness_StepKeepsTheInvariant :
    (Inv ready ∧ step ready = .next ready) ∧ (Inv inGap ∧ ∃ t, step inGap = .next t) :=
  ⟨⟨ready_inv, rfl⟩, inGap_inv, _, test_edge_in_a_gap⟩

theorem witness_NeverDrivenAndListenedTo :
    (Inv sending ∧ sending.initialized = true ∧ sending.txActive = true ∧ Micro.detach ∉ sending.micro) ∧
    (Inv pending ∧ pending.initialized = true ∧ pending.txFinished = true ∧ Micro.clearFinished ∉ pending.micro) ∧
    (Inv reenabling ∧ reenabling.initialized = true ∧ reenabling.txFinished = true ∧
      Micro.attach ∈ reenabling.micro) ∧
    (sending.txPresent = true ∧ sending.busEnOut = true) ∧
    Inv driving ∧ driving.initialized = true ∧ driving.txPresent = true ∧ driving.busEnOut = true :=
  ⟨⟨sending_inv, by decide, by decide, by decide⟩, ⟨pending_inv, by decide, by decide, by decide⟩,
    ⟨reenabling_inv, by decide, by decide, by decide⟩, ⟨by decide, by decide⟩, driving_inv, by decide, by decide,
    by decide⟩

end Sys2Proof.Tests
end

/-! ## O52 and O53: the invariant `Inv` holds at power-on and every step keeps it -/

namespace Sys2Proof.Machine

/-! ### The invariant after SETUP -/

/-- What `Inv` says of a state after SETUP, with its parts named. -/
structure Running (s : State) : Prop where
  params : s.cfg.Ok
  initialized : s.initialized = true
  buffers : BuffersOk s
  receive : ReceiveOk s
  frame : FrameOk s
  transmit : TransmitOk s
  outputs : OutputsOk s
  command : CommandOk s
  arbiter : ArbiterOk s

/-- `Inv` is `Running` after SETUP; before it, admissible parameters and no command in progress. -/
theorem inv_iff (s : State) :
    Inv s ↔ (s.cfg.Ok ∧ s.initialized = false ∧ s.micro = []) ∨ Running s := by
  constructor
  · rintro ⟨hp, hbefore, hafter⟩
    cases hi : s.initialized with
    | false => exact .inl ⟨hp, rfl, hbefore hi⟩
    | true =>
      obtain ⟨hb, hr, hf, ht, ho, hc, ha⟩ := hafter hi
      exact .inr ⟨hp, hi, hb, hr, hf, ht, ho, hc, ha⟩
  · rintro (⟨hp, hi, hm⟩ | h)
    · exact ⟨hp, fun _ => hm, fun hi' => by simp [hi] at hi'⟩
    · exact ⟨h.params, fun hi => by simp [h.initialized] at hi,
        fun _ => ⟨h.buffers, h.receive, h.frame, h.transmit, h.outputs, h.command, h.arbiter⟩⟩

theorem Running.inv {s : State} (h : Running s) : Inv s := (inv_iff s).2 (.inr h)

theorem Inv.running {s : State} (h : Inv s) (hi : s.initialized = true) : Running s :=
  ((inv_iff s).1 h).resolve_left fun ⟨_, hi', _⟩ => by simp [hi] at hi'

/-- Before SETUP no command is in progress. -/
theorem Inv.running_of_micro_ne_nil {s : State} (h : Inv s) (hm : s.micro ≠ []) : Running s :=
  ((inv_iff s).1 h).resolve_left fun ⟨_, _, hm'⟩ => hm hm'

theorem Running.rxCap_pos {s : State} (h : Running s) : 0 < s.cfg.rxCap := by
  have := h.params.1
  simp only [Params.rxCap]; omega

/-! ### The events -/

theorem countEdge_keeps_running {s : State} (h : Running s) : Running (countEdge s) := by
  obtain ⟨hidx, -, -, -, -, -, hatt⟩ := h.receive
  have hr : ReceiveOk (countEdge s) :=
    ⟨hidx, fun _ => ⟨rfl, Nat.add_right_comm ..⟩, fun _ => Nat.le_add_right .., fun _ => Nat.le_add_right ..,
      fun hb => by simp at hb, fun _ => rfl, hatt⟩
  exact { h with receive := hr }

theorem storeBurst_keeps_running {s : State} (h : Running s) : Running (storeBurst s) := by
  obtain ⟨hidx, -, -, hframe, -, hrecv, hatt⟩ := h.receive
  have hr : ReceiveOk (storeBurst s) :=
    ⟨advance_lt hidx, fun hb => by simp at hb, fun hb => by simp at hb, hframe, fun _ => rfl, hrecv, hatt⟩
  exact { h with buffers := storeBurst_keeps_buffers h.buffers, receive := hr }

theorem frameDue_of_frameEnabled {s : State} (he : frameEnabled s = true) :
    s.initialized = true ∧ s.frameArmed = true ∧ s.frameDeadline ≤ s.now := by
  have hdue : frameDue s = true := (Bool.and_eq_true_iff.1 he).1
  simpa [frameDue, and_assoc] using hdue

/-- Both deadlines are from one edge and `T_BIT < T_FRAME`, so an armed burst-end alarm, whose deadline is not passed,
keeps the frame-end alarm from being due. -/
theorem Running.burstArmed_false_of_frameEnabled {s : State} (h : Running s) (he : frameEnabled s = true) :
    s.burstArmed = false := by
  obtain ⟨-, hedge, hburst, -, -, -, -⟩ := h.receive
  obtain ⟨-, -, hlt, -, -⟩ := h.params
  obtain ⟨-, -, hdue⟩ := frameDue_of_frameEnabled he
  rw [← Bool.not_eq_true]
  intro hb
  have := (hedge hb).2
  have := hburst hb
  omega

theorem markFrameEnd_keeps_running {s : State} (h : Running s) (he : frameEnabled s = true) :
    Running (markFrameEnd s) := by
  have hb := h.burstArmed_false_of_frameEnabled he
  obtain ⟨hidx, -, hburst, -, hcount, -, hatt⟩ := h.receive
  have hr : ReceiveOk (markFrameEnd s) :=
    ⟨hidx, fun hb' => by simp [hb] at hb', hburst, fun hf => by simp at hf, hcount, fun hr => by simp at hr, hatt⟩
  exact { h with receive := hr }

theorem setNow_keeps_running {s : State} {u : Nat} (h : Running s) (he : timeEnabled u s = true) :
    Running { s with now := u } := by
  obtain ⟨hidx, hedge, -, -, hcount, hrecv, hatt⟩ := h.receive
  simp only [timeEnabled, Bool.and_eq_true, Bool.or_eq_true, Bool.not_eq_true', decide_eq_true_eq] at he
  obtain ⟨⟨-, hburst⟩, hframe⟩ := he
  have hr : ReceiveOk { s with now := u } :=
    ⟨hidx, hedge, fun hb : s.burstArmed = true => hburst.resolve_left (by simp [hb]),
      fun hf : s.frameArmed = true => hframe.resolve_left (by simp [hf]),
      hcount, hrecv, hatt⟩
  exact { h with receive := hr }

/-! ### The TX state machine -/

/-- The countdown's bound: the longest load (R9, R41). -/
theorem load_le_max (p : Params) :
    p.nStart ≤ max (max p.nStart p.nZero) (max p.nOne p.nSilence) ∧
    p.nZero ≤ max (max p.nStart p.nZero) (max p.nOne p.nSilence) ∧
    p.nOne ≤ max (max p.nStart p.nZero) (max p.nOne p.nSilence) ∧
    p.nSilence ≤ max (max p.nStart p.nZero) (max p.nOne p.nSilence) := by
  omega

theorem beginSilence_keeps_running {s : State} (h : Running s) (hp : s.txPhase = .burst) :
    Running (beginSilence s) := by
  obtain ⟨hexcl, hpres, hbit, htot, hmod, hpos, -, hstart⟩ := h.transmit
  obtain ⟨hgate, hout⟩ := h.outputs
  have ht : TransmitOk (beginSilence s) :=
    ⟨hexcl, hpres, hbit, htot, hmod, hpos, (load_le_max s.cfg).2.2.2, fun ha hs => by
      have := (hstart ha hs).1; simp [hp] at this⟩
  have ho : OutputsOk (beginSilence s) := ⟨hgate, fun htx => ⟨by simp, (hout htx).2⟩⟩
  exact { h with transmit := ht, outputs := ho }

theorem loadStart_keeps_running {s : State} (h : Running s) (ha : s.txActive = true) : Running (loadStart s) := by
  obtain ⟨hexcl, hpres, hbit, htot, hmod, hpos, -, -⟩ := h.transmit
  obtain ⟨hgate, hout⟩ := h.outputs
  have ht : TransmitOk (loadStart s) :=
    ⟨hexcl, hpres, hbit, htot, hmod, hpos, (load_le_max s.cfg).1, fun _ hs => by simp at hs⟩
  have ho : OutputsOk (loadStart s) := ⟨hgate, fun htx => ⟨by simp [ha], (hout htx).2⟩⟩
  exact { h with transmit := ht, outputs := ho }

theorem loadBit_keeps_running {s : State} (h : Running s) (ha : s.txActive = true) (hb : s.txBit ≠ s.txTotal)
    (hst : s.txStarted = true) : Running (loadBit s) := by
  obtain ⟨hexcl, hpres, hbit, htot, hmod, hpos, -, -⟩ := h.transmit
  obtain ⟨hgate, hout⟩ := h.outputs
  obtain ⟨-, hzero, hone, -⟩ := load_le_max s.cfg
  have hload : (loadBit s).txCount ≤ max (max s.cfg.nStart s.cfg.nZero) (max s.cfg.nOne s.cfg.nSilence) := by
    rw [loadBit_txCount]; split
    · exact hone
    · exact hzero
  have ht : TransmitOk (loadBit s) :=
    ⟨hexcl, hpres, Nat.lt_of_le_of_ne hbit hb, htot, hmod, hpos, hload, fun _ hs => by simp [hst] at hs⟩
  have ho : OutputsOk (loadBit s) := ⟨hgate, fun htx => ⟨by simp [ha], (hout htx).2⟩⟩
  exact { h with transmit := ht, outputs := ho }

theorem countDown_keeps_running {s : State} (h : Running s) (hc : s.txCount ≠ 0) : Running (countDown s) := by
  obtain ⟨hexcl, hpres, hbit, htot, hmod, hpos, hmax, hstart⟩ := h.transmit
  have ht : TransmitOk (countDown s) :=
    ⟨hexcl, hpres, hbit, htot, hmod, hpos, (Nat.sub_le ..).trans hmax, fun ha hs => absurd (hstart ha hs).2.1 hc⟩
  exact { h with transmit := ht }

/-- While the gate is open, the command in progress is none, or SERVICE before its M4: START_TIMER is over, and the
receive side is enabled only between transmissions. -/
theorem Running.micro_of_txGate {s : State} (h : Running s) (hg : s.txGate = true) :
    s.micro = [] ∨ ∃ n b, n < s.cfg.rxCap ∧ s.micro <:+ [.decode n b, .captureReset, .checkFinished] := by
  obtain ⟨hact, hopen⟩ := h.outputs.1.1 hg
  obtain hm | ⟨-, -, hact', -⟩ | ⟨-, hopen', -⟩ | ⟨-, -, hfin⟩ | hservice := h.command
  · exact .inl hm
  · simp [hact] at hact'
  · exact absurd hopen' hopen
  · exact absurd ⟨hact, hfin⟩ h.transmit.1
  · exact .inr hservice

/-- While the gate is open, no micro-step still to run detaches the handler, so it is detached already (R208). -/
theorem Running.attached_false_of_txGate {s : State} (h : Running s) (hg : s.txGate = true) :
    s.attached = false := by
  refine h.arbiter.1 (h.outputs.1.1 hg).1 ?_
  obtain hm | ⟨n, b, -, hm⟩ := h.micro_of_txGate hg
  · simp [hm]
  · exact fun hmem => by simpa using hm.subset hmem

theorem finishTx_keeps_running {s : State} (h : Running s) (hg : s.txGate = true) : Running (finishTx s) := by
  obtain ⟨-, -, hbit, htot, hmod, -, hmax, -⟩ := h.transmit
  have ht : TransmitOk (finishTx s) :=
    ⟨by simp, by simp, hbit, htot, hmod, by simp, hmax, by simp⟩
  have ho : OutputsOk (finishTx s) := by simp [OutputsOk]
  have hc : CommandOk (finishTx s) := (h.micro_of_txGate hg).imp_right fun hm => .inr (.inr (.inr hm))
  have ha : ArbiterOk (finishTx s) := ⟨by simp, fun _ _ => h.attached_false_of_txGate hg⟩
  exact { h with
    buffers := finishTx_keeps_buffers h.buffers, transmit := ht, outputs := ho, command := hc, arbiter := ha }

theorem tick_keeps_running {s : State} (h : Running s) (hg : s.txGate = true) : Running (tick s) := by
  obtain ⟨-, ht⟩ | ⟨-, -, -, ht⟩ | ⟨-, -, -, hp, ht⟩ | ⟨ha, -, -, -, -, ht⟩ | ⟨ha, -, hb, -, hst, ht⟩ | ⟨-, hc, ht⟩ :=
    tick_cases s <;> rw [ht]
  · exact h
  · exact finishTx_keeps_running h hg
  · exact beginSilence_keeps_running h hp
  · exact loadStart_keeps_running h ha
  · exact loadBit_keeps_running h ha hb hst
  · exact countDown_keeps_running h hc

/-! ### The micro-steps -/

/-- A valid frame of `N` bursts has a word for each nine after the start marker, the last of them the checksum's
(R145). -/
theorem decodeFrame_ok_length {p : Params} {N : Nat} {B : List Count} {d : List Byte}
    (h : decodeFrame p N B = .ok d) : d.length + 1 = (N - 1) / 9 := by
  unfold decodeFrame at h
  split at h
  · cases h
  · split at h
    · cases h
    · rename_i hlen
      dsimp only at h
      split at h
      · cases h
      · split at h
        · cases h
        · cases h
          simp only [List.length_dropLast, List.length_map, List.length_range]
          omega

/-- R147, fed from the capture. -/
theorem decodeFrame_valid_length {p : Params} {N : Nat} {B : List Count} (hN : N < p.rxCap)
    (hv : (decodeFrame p N B).valid = true) : (decodeFrame p N B).data.length + 2 ≤ p.maxWordlen := by
  cases hd : decodeFrame p N B with
  | failed c => simp [hd, DecodeResult.valid] at hv
  | ok d =>
    have := decodeFrame_ok_length hd
    simp only [Params.rxCap] at hN
    simp only [DecodeResult.data]
    omega

theorem decodeFrame_data_length_le {p : Params} {N : Nat} {B : List Count} (hN : N < p.rxCap) :
    (decodeFrame p N B).data.length ≤ p.maxWordlen := by
  cases hd : decodeFrame p N B with
  | failed c => simp [DecodeResult.data]
  | ok d =>
    have := decodeFrame_valid_length hN (B := B) (by simp [hd, DecodeResult.valid])
    rw [hd] at this
    omega

theorem captureReset_keeps_running {s : State} (h : Running s) : Running (captureReset s) := by
  obtain ⟨-, hedge, hburst, hframe, -, -, hatt⟩ := h.receive
  have hr : ReceiveOk (captureReset s) := by
    refine ⟨h.rxCap_pos, ?_, ?_, ?_, fun _ => rfl, fun hr => by simp at hr, hatt⟩
    all_goals simp only [captureReset_burstArmed, captureReset_frameArmed, Bool.and_eq_true]
    · exact fun hb => ⟨⟨(hedge hb.1).1, hb.2⟩, (hedge hb.1).2⟩
    · exact fun hb => hburst hb.1
    · exact fun hf => hframe hf.1
  exact { h with buffers := captureReset_keeps_buffers h.buffers, receive := hr }

theorem commitDecode_keeps_running {s : State} {n : Nat} {b : List Count} (h : Running s) (hn : n < s.cfg.rxCap) :
    Running (commitDecode n b s) := by
  have hf : FrameOk (commitDecode n b s) := ⟨decodeFrame_valid_length hn, decodeFrame_data_length_le hn⟩
  exact { h with buffers := commitDecode_keeps_buffers h.buffers (decodeFrame_data_length_le hn), frame := hf }

/-! ### Where a command in progress stands -/

/-- Every place at which a command in progress can stand, with its arbiter state: in SETUP's RX_ENABLE, in
START_TIMER, in SERVICE's deferred re-enable, or in SERVICE before its M4. -/
theorem CommandOk.places {s : State} (h : CommandOk s) :
    s.micro = [] ∨
    (s.rxPresent = true ∧ s.txActive = false ∧ s.txFinished = false ∧
      s.micro ∈ [[.captureReset, .attach, .captureReset], [.attach, .captureReset], [.captureReset]]) ∨
    (s.txActive = true ∧
      s.micro ∈ [[.captureReset, .detach, .captureReset, .driveBus, .openGate],
        [.detach, .captureReset, .driveBus, .openGate], [.captureReset, .driveBus, .openGate],
        [.driveBus, .openGate], [.openGate]]) ∨
    (s.txFinished = true ∧
      (s.micro = [.clearFinished] ∨ s.rxPresent = true ∧
        s.micro ∈ [[.captureReset, .attach, .captureReset, .clearFinished],
          [.attach, .captureReset, .clearFinished], [.captureReset, .clearFinished]])) ∨
    ∃ n b, n < s.cfg.rxCap ∧
      s.micro ∈ [[.decode n b, .captureReset, .checkFinished], [.captureReset, .checkFinished], [.checkFinished]] := by
  obtain hm | ⟨hr, hm, ha, hf⟩ | ⟨hm, hopen, ha⟩ | ⟨hm, hclear, hf⟩ | ⟨n, b, hn, hm⟩ := h
  · exact .inl hm
  · simp only [rxEnable, if_true, List.suffix_cons_iff, List.suffix_nil] at hm
    simp only [hr, ha, hf, List.mem_cons, List.not_mem_nil]
    tauto
  · refine .inr (.inr (.inl ⟨ha, ?_⟩))
    have hne : s.micro ≠ [] := List.ne_nil_of_mem hopen
    cases hr : s.rxPresent <;>
      simp only [hr, startTimer, rxDisable, if_true, Bool.false_eq_true, if_false, List.cons_append, List.nil_append,
        List.suffix_cons_iff, List.suffix_nil, hne, or_false] at hm <;>
      simp only [List.mem_cons] <;> tauto
  · refine .inr (.inr (.inr (.inl ⟨hf, ?_⟩)))
    have hne : s.micro ≠ [] := List.ne_nil_of_mem hclear
    cases hr : s.rxPresent <;>
      simp only [hr, reenable, rxEnable, if_true, Bool.false_eq_true, if_false, List.cons_append, List.nil_append,
        List.suffix_cons_iff, List.suffix_nil, hne, or_false] at hm <;>
      simp only [List.mem_cons] <;> tauto
  · by_cases hne : s.micro = []
    · exact .inl hne
    · simp only [List.suffix_cons_iff, List.suffix_nil, hne, or_false] at hm
      exact .inr (.inr (.inr (.inr ⟨n, b, hn, by simpa using hm⟩)))

theorem CommandOk.at_attach {s : State} {ms : List Micro} (h : CommandOk s) (hm : s.micro = .attach :: ms) :
    s.rxPresent = true ∧
    ((s.txActive = false ∧ s.txFinished = false ∧ ms = [.captureReset]) ∨
      (s.txFinished = true ∧ ms = [.captureReset, .clearFinished])) := by
  obtain ⟨hr, h⟩ | ⟨hf, hr, hms⟩ : _ ∨ _ := by simpa [hm] using h.places
  · exact ⟨hr, .inl h⟩
  · exact ⟨hr, .inr ⟨hf, hms⟩⟩

theorem CommandOk.at_driveBus {s : State} {ms : List Micro} (h : CommandOk s) (hm : s.micro = .driveBus :: ms) :
    s.txActive = true ∧ ms = [.openGate] := by
  simpa [hm] using h.places

theorem CommandOk.at_openGate {s : State} {ms : List Micro} (h : CommandOk s) (hm : s.micro = .openGate :: ms) :
    s.txActive = true ∧ ms = [] := by
  simpa [hm] using h.places

theorem CommandOk.at_decode {s : State} {n : Nat} {b : List Count} {ms : List Micro} (h : CommandOk s)
    (hm : s.micro = .decode n b :: ms) : n < s.cfg.rxCap ∧ ms = [.captureReset, .checkFinished] := by
  simpa [hm] using h.places

theorem CommandOk.at_checkFinished {s : State} {ms : List Micro} (h : CommandOk s)
    (hm : s.micro = .checkFinished :: ms) : ms = [] := by
  have hplaces : (∃ n, n < s.cfg.rxCap) ∧ ms = [] := by simpa [hm] using h.places
  exact hplaces.2

theorem CommandOk.at_clearFinished {s : State} {ms : List Micro} (h : CommandOk s)
    (hm : s.micro = .clearFinished :: ms) : s.txFinished = true ∧ ms = [] := by
  simpa [hm] using h.places

/-! ### Taking the next micro-step off the command -/

section Tail

variable {s : State} {m : Micro} {ms : List Micro} (hm : s.micro = m :: ms)
include hm

theorem CommandOk.tail (h : CommandOk s) (hopen : m ≠ .openGate := by simp) (hclear : m ≠ .clearFinished := by simp) :
    CommandOk { s with micro := ms } := by
  have hsuffix {plan : List Micro} (hp : s.micro <:+ plan) : ms <:+ plan :=
    (List.suffix_cons m ms).trans (hm ▸ hp)
  obtain h | ⟨hr, h, ha, hf⟩ | ⟨h, hmem, ha⟩ | ⟨h, hmem, hf⟩ | ⟨n, b, hn, h⟩ := h
  · simp [hm] at h
  · exact .inr (.inl ⟨hr, hsuffix h, ha, hf⟩)
  · exact .inr (.inr (.inl ⟨hsuffix h, by simpa [hm, hopen.symm] using hmem, ha⟩))
  · exact .inr (.inr (.inr (.inl ⟨hsuffix h, by simpa [hm, hclear.symm] using hmem, hf⟩)))
  · exact .inr (.inr (.inr (.inr ⟨n, b, hn, hsuffix h⟩)))

theorem OutputsOk.tail (h : OutputsOk s) (hopen : m ≠ .openGate := by simp) (hdrive : m ≠ .driveBus := by simp) :
    OutputsOk { s with micro := ms } := by
  simpa [OutputsOk, hm, hopen.symm, hdrive.symm] using h

theorem ArbiterOk.tail (h : ArbiterOk s) (hdetach : m ≠ .detach := by simp) (hattach : m ≠ .attach := by simp)
    (hclear : m ≠ .clearFinished := by simp) : ArbiterOk { s with micro := ms } := by
  simpa [ArbiterOk, hm, hdetach.symm, hattach.symm, hclear.symm] using h

/-- Without its first micro-step, where that is none that the invariant speaks of, a command still stands at
one of its places. -/
theorem Running.tail (h : Running s) (hopen : m ≠ .openGate := by simp) (hdrive : m ≠ .driveBus := by simp)
    (hdetach : m ≠ .detach := by simp)
    (hattach : m ≠ .attach := by simp) (hclear : m ≠ .clearFinished := by simp) : Running { s with micro := ms } :=
  { h with
    outputs := h.outputs.tail hm hopen hdrive
    command := h.command.tail hm hopen hclear
    arbiter := h.arbiter.tail hm hdetach hattach hclear }

end Tail

/-! ### The micro-steps that attach and detach, drive and gate, and those of the arbiter -/

section MicroSteps

variable {s : State} {ms : List Micro}

theorem attach_keeps_running (h : Running s) (hm : s.micro = .attach :: ms) :
    Running (attach { s with micro := ms }) := by
  obtain ⟨hrx, hplace⟩ := h.command.at_attach hm
  obtain ⟨hidx, hedge, hburst, hframe, hcount, hrecv, -⟩ := h.receive
  have hr : ReceiveOk (attach { s with micro := ms }) := ⟨hidx, hedge, hburst, hframe, hcount, hrecv, fun _ => hrx⟩
  have ha : ArbiterOk (attach { s with micro := ms }) := by
    obtain ⟨hact, hfin, rfl⟩ | ⟨hfin, rfl⟩ := hplace
    · simp [ArbiterOk, hact, hfin]
    · have hact : s.txActive = false := by simpa [hfin] using h.transmit.1
      simp [ArbiterOk, hact]
  exact { h with
    receive := hr
    outputs := (h.outputs.tail hm :)
    command := (h.command.tail hm :)
    arbiter := ha }

theorem detach_keeps_running (h : Running s) (hm : s.micro = .detach :: ms) :
    Running (detach { s with micro := ms }) := by
  obtain ⟨hidx, hedge, hburst, hframe, hcount, hrecv, -⟩ := h.receive
  have hr : ReceiveOk (detach { s with micro := ms }) :=
    ⟨hidx, hedge, hburst, hframe, hcount, hrecv, fun ha => by simp at ha⟩
  exact { h with
    receive := hr
    outputs := (h.outputs.tail hm :)
    command := (h.command.tail hm :)
    arbiter := ⟨fun _ _ => rfl, fun _ _ => rfl⟩ }

theorem driveBus_keeps_running (h : Running s) (hm : s.micro = .driveBus :: ms) :
    Running (driveBus { s with micro := ms }) := by
  obtain ⟨hact, rfl⟩ := h.command.at_driveBus hm
  obtain ⟨hgate, hout⟩ := h.outputs
  have ho : OutputsOk (driveBus { s with micro := [.openGate] }) :=
    ⟨by simpa [hm] using hgate, fun htx => ⟨(hout htx).1, by simp [hact]⟩⟩
  exact { h with
    outputs := ho
    command := (h.command.tail hm :)
    arbiter := (h.arbiter.tail hm :) }

theorem openGate_keeps_running (h : Running s) (hm : s.micro = .openGate :: ms) :
    Running (openGate { s with micro := ms }) := by
  obtain ⟨hact, rfl⟩ := h.command.at_openGate hm
  have ho : OutputsOk (openGate { s with micro := [] }) :=
    ⟨by simp [hact], fun htx => by simpa [hm] using h.outputs.2 htx⟩
  exact { h with
    outputs := ho
    command := .inl rfl
    arbiter := (h.arbiter.tail hm :) }

theorem clearFinished_keeps_running (h : Running s) (hm : s.micro = .clearFinished :: ms) :
    Running (clearFinished { s with micro := ms }) := by
  obtain ⟨hfin, rfl⟩ := h.command.at_clearFinished hm
  have hact : s.txActive = false := by simpa [hfin] using h.transmit.1
  obtain ⟨-, htransmit⟩ := h.transmit
  exact { h with
    transmit := ⟨by simp, htransmit⟩
    outputs := (h.outputs.tail hm :)
    command := .inl rfl
    arbiter := by simp [ArbiterOk, hact] }

/-- M4 of SERVICE in PendingReenable: the handler is still detached, as it has been since START_TIMER. -/
theorem reenable_keeps_running (h : Running s) (hm : s.micro = .checkFinished :: ms) (hfin : s.txFinished = true) :
    Running { s with micro := reenable s.rxPresent ++ ms } := by
  obtain rfl := h.command.at_checkFinished hm
  have hact : s.txActive = false := by simpa [hfin] using h.transmit.1
  have hdet : s.attached = false := h.arbiter.2 hfin (.inr (by simp [hm]))
  have ho : OutputsOk { s with micro := reenable s.rxPresent ++ [] } := by
    simpa [OutputsOk, hm, hact] using h.outputs
  have hc : CommandOk { s with micro := reenable s.rxPresent ++ [] } :=
    .inr (.inr (.inr (.inl ⟨by simp, by simp [reenable], hfin⟩)))
  exact { h with outputs := ho, command := hc, arbiter := ⟨fun _ _ => hdet, fun _ _ => hdet⟩ }

theorem runMicro_keeps_running {m : Micro} (h : Running s) (hm : s.micro = m :: ms) :
    Running (runMicro m { s with micro := ms }) := by
  cases m with
  | captureReset =>
    exact captureReset_keeps_running (h.tail hm)
  | attach => exact attach_keeps_running h hm
  | detach => exact detach_keeps_running h hm
  | driveBus => exact driveBus_keeps_running h hm
  | openGate => exact openGate_keeps_running h hm
  | decode n b =>
    exact commitDecode_keeps_running (h.tail hm)
      (h.command.at_decode hm).1
  | checkFinished =>
    simp only [runMicro]
    split
    · next hfin => exact reenable_keeps_running h hm hfin
    · exact h.tail hm
  | clearFinished => exact clearFinished_keeps_running h hm

end MicroSteps

/-- `Running` says nothing of the environment's choices still to come, the trace and the count of free values. -/
theorem Running.of_choices {s : State} (h : Running s) (inbox : List Byte) (sched : List Turn) (trace : List Label)
    (freeCount : Nat) :
    Running { s with inbox := inbox, sched := sched, trace := trace, freeCount := freeCount } :=
  { h with }

/-- A command that goes on keeps the invariant, however far it runs. -/
theorem resume_keeps_running {s : State} (h : Running s) : Running (resume s) :=
  goOn_keeps (fun s _ _ ts h hm => 
    runMicro_keeps_running (s := { s with sched := ts }) (h.of_choices s.inbox ts s.trace s.freeCount) hm) _ s h

/-! ### The host commands -/

theorem record_keeps_inv {s : State} (l : Label) (h : Inv s) : Inv (record l s) := h

/-- What SETUP's first micro-step leaves, with RX_ENABLE to run (R251). -/
theorem setupState_running (tx en rx : Bool) {s : State} (hp : s.cfg.Ok) :
    Running { setupState tx en rx s with micro := rxEnable rx } where
  params := hp
  initialized := rfl
  buffers := setupState_buffers tx en rx s
  receive := by
    have hcap : 0 < 9 * s.cfg.maxWordlen := Nat.mul_pos (by decide) (Nat.lt_of_lt_of_le (by decide) hp.1)
    exact ⟨hcap, by simp [setupState]⟩
  frame := by simp [FrameOk, setupState]
  transmit := by simp [TransmitOk, setupState]
  outputs := by cases tx <;> cases en <;> simp [OutputsOk, setupState]
  command := by cases rx <;> simp [CommandOk, setupState, rxEnable]
  arbiter := by simp [ArbiterOk, setupState]

/-- The configuration faults are labels of the trace alone. -/
theorem recordAbsent_eq (tx en rx : Bool) (s : State) :
    recordAbsent tx en rx s = { s with trace := (recordAbsent tx en rx s).trace } := by
  cases tx <;> cases en <;> cases rx <;> rfl

theorem execSetup_keeps_inv {tx en rx : Bool} {s t : State} (h : Inv s) (ht : execSetup tx en rx s = .next t) :
    Inv t := by
  unfold execSetup at ht
  split at ht
  · cases ht
  · cases ht
    rw [recordAbsent_eq]
    exact (resume_keeps_running ((setupState_running tx en rx h.1).of_choices _ _ _ _)).inv

theorem servicePlan_suffix (s : State) :
    servicePlan s <:+ [.decode s.burstIdx (s.bursts.take s.burstIdx), .captureReset, .checkFinished] := by
  unfold servicePlan; split <;> simp [List.suffix_cons_iff]

theorem not_mem_servicePlan {s : State} {m : Micro}
    (hm : m ∉ [.decode s.burstIdx (s.bursts.take s.burstIdx), .captureReset, .checkFinished]) : m ∉ servicePlan s :=
  fun hmem => hm ((servicePlan_suffix s).subset hmem)

/-- In the gaps of SERVICE's plan the handler is as it was between commands: no micro-step of the plan attaches it. -/
theorem servicePlan_running {s : State} (h : Running s) (hm : s.micro = []) :
    Running { s with micro := servicePlan s } := by
  have ho : OutputsOk { s with micro := servicePlan s } := by
    simpa [OutputsOk, hm, not_mem_servicePlan] using h.outputs
  have ha : ArbiterOk { s with micro := servicePlan s } := by
    simpa [ArbiterOk, hm, not_mem_servicePlan] using h.arbiter
  exact { h with
    outputs := ho
    command := .inr (.inr (.inr (.inr ⟨_, _, h.receive.1, servicePlan_suffix s⟩)))
    arbiter := ha }

theorem startTimer_running {b : List Byte} {s : State} (h : Running s) (htx : s.txPresent = true)
    (hbusy : txBusy s = false) (hb : b.length ≤ s.cfg.maxWordlen - 1) :
    Running { acceptSend b s with micro := startTimer s.rxPresent } := by
  have hlen : b.length + 1 ≤ s.cfg.maxWordlen := by have := h.params.1; omega
  obtain ⟨hact, hfin⟩ : s.txActive = false ∧ s.txFinished = false := by simpa [txBusy] using hbusy
  obtain ⟨-, -, -, -, -, -, hattached⟩ := h.receive
  have ht : TransmitOk (acceptSend b s) := by
    simp [TransmitOk, hfin, htx]
    omega
  have ho : OutputsOk { acceptSend b s with micro := startTimer s.rxPresent } := by
    simpa [OutputsOk, hact, startTimer] using h.outputs
  have ha : ArbiterOk { acceptSend b s with micro := startTimer s.rxPresent } := by
    refine ⟨fun _ hdetach => ?_, fun hfin' => by simp [hfin] at hfin'⟩
    have hrx : s.rxPresent ≠ true := fun hrx => hdetach (by simp [startTimer, rxDisable, hrx])
    exact Bool.eq_false_iff.2 fun hatt => hrx (hattached hatt)
  exact { h with
    buffers := acceptSend_keeps_buffers h.buffers hlen
    transmit := ht
    outputs := ho
    command := .inr (.inr (.inl ⟨List.suffix_rfl, by simp [startTimer], rfl⟩))
    arbiter := ha }

theorem sendBytes_keeps_inv {b : List Byte} {s t : State} (h : Inv s) (ht : sendBytes b s = .next t) : Inv t := by
  obtain ⟨hi, htx, ⟨-, rfl⟩ | ⟨-, -, rfl⟩ | ⟨hbusy, hb, rfl⟩⟩ := sendBytes_cases ht
  · exact record_keeps_inv _ h
  · exact record_keeps_inv _ h
  · exact (resume_keeps_running (startTimer_running (h.running hi) htx hbusy hb)).inv

theorem execSendHex_keeps_inv {c : List Byte} {s t : State} (h : Inv s) (ht : execSendHex c s = .next t) : Inv t := by
  obtain ⟨e, -, rfl⟩ | ⟨b, -, hsend⟩ := execSendHex_cases ht
  · exact record_keeps_inv _ h
  · exact sendBytes_keeps_inv h hsend

theorem notify_keeps_inv {s : State} (f : RawFrame) (h : Inv s) : Inv (notify f s) := by
  unfold notify; split
  · exact record_keeps_inv _ h
  · exact h

theorem execRead_keeps_inv {s t : State} (h : Inv s) (ht : execRead s = .next t) : Inv t := by
  unfold execRead at ht
  split at ht
  · cases ht
  · split at ht
    · cases ht; exact notify_keeps_inv _ (record_keeps_inv _ h)
    · cases ht; exact record_keeps_inv _ h

theorem execActive_keeps_inv {s t : State} (h : Inv s) (ht : execActive s = .next t) : Inv t := by
  unfold execActive at ht
  split at ht
  · cases ht
  · cases ht; exact record_keeps_inv _ h

theorem execService_keeps_inv {s t : State} (h : Inv s) (hm : s.micro = []) (ht : execService s = .next t) :
    Inv t := by
  unfold execService at ht
  split at ht
  · cases ht
  · next hi =>
    cases ht
    exact (resume_keeps_running (servicePlan_running (h.running (by simpa using hi)) hm)).inv

/-! ### The events and the invariant -/

theorem execEdge_keeps_inv {s t : State} (h : Inv s) (ht : execEdge s = .next t) : Inv t := by
  obtain ⟨-, rfl⟩ | ⟨-, -, rfl⟩ | ⟨hi, -, -, -, rfl⟩ | ⟨-, -, -, rfl⟩ := execEdge_cases ht
  · exact h
  · exact record_keeps_inv _ h
  · exact (countEdge_keeps_running (h.running hi)).inv
  · exact h

theorem execBurstAlarm_keeps_inv {s t : State} (h : Inv s) (ht : execBurstAlarm s = .next t) : Inv t := by
  obtain ⟨he, rfl⟩ | ⟨-, rfl⟩ := execBurstAlarm_cases ht
  · obtain ⟨⟨hi, -⟩, -⟩ : (s.initialized = true ∧ s.burstArmed = true) ∧ s.burstDeadline ≤ s.now := by
      simpa [burstEnabled] using he
    exact (storeBurst_keeps_running (h.running hi)).inv
  · exact record_keeps_inv _ h

theorem execFrameAlarm_keeps_inv {s t : State} (h : Inv s) (ht : execFrameAlarm s = .next t) : Inv t := by
  obtain ⟨he, rfl⟩ | ⟨-, rfl⟩ := execFrameAlarm_cases ht
  · obtain ⟨hi, -, -⟩ := frameDue_of_frameEnabled he
    exact (markFrameEnd_keeps_running (h.running hi) he).inv
  · exact record_keeps_inv _ h

theorem execTxTick_keeps_inv {s t : State} (h : Inv s) (ht : execTxTick s = .next t) : Inv t := by
  obtain ⟨he, rfl⟩ | ⟨-, rfl⟩ := execTxTick_cases ht
  · obtain ⟨⟨hi, -⟩, hg⟩ : (s.initialized = true ∧ s.txPresent = true) ∧ s.txGate = true := by
      simpa [tickEnabled] using he
    exact (tick_keeps_running (h.running hi) hg).inv
  · exact record_keeps_inv _ h

theorem execTime_keeps_inv {u : Nat} {s t : State} (h : Inv s) (ht : execTime u s = .next t) : Inv t := by
  obtain ⟨-, rfl⟩ | ⟨hi, he, rfl⟩ | ⟨-, -, rfl⟩ := execTime_cases ht
  · exact h
  · exact (setNow_keeps_running (h.running hi) he).inv
  · exact record_keeps_inv _ h

/-! ### The step -/

/-- Every operation keeps the invariant, a host command only between commands (R13). -/
theorem exec_keeps_inv {i : Instr} {s t : State} (h : Inv s) (hm : i.role = .service → s.micro = [])
    (ht : exec i s = .next t) : Inv t := by
  cases i with
  | edge => exact execEdge_keeps_inv h ht
  | burstAlarm => exact execBurstAlarm_keeps_inv h ht
  | frameAlarm => exact execFrameAlarm_keeps_inv h ht
  | txTick => exact execTxTick_keeps_inv h ht
  | setup tx en rx => exact execSetup_keeps_inv h ht
  | service => exact execService_keeps_inv h (hm rfl) ht
  | read => exact execRead_keeps_inv h ht
  | send b => exact sendBytes_keeps_inv h ht
  | sendHex c => exact execSendHex_keeps_inv h ht
  | active => exact execActive_keeps_inv h ht
  | time u => exact execTime_keeps_inv h ht

/-- `Inv` says nothing of the environment's choices still to come. -/
theorem Inv.of_choices {s : State} (h : Inv s) (inbox : List Byte) (sched : List Turn) :
    Inv { s with inbox := inbox, sched := sched } := h

/-- Settles O52: before SETUP the invariant asks only for admissible parameters and no command in progress. -/
theorem invariantHoldsAtPowerOn : Obligations.InvariantHoldsAtPowerOn := by
  have hpower (p : Params) (hp : p.Ok) : Inv (State.powerOn p) := (inv_iff _).2 (.inl ⟨hp, rfl, rfl⟩)
  exact ⟨hpower, hpower Params.tc (by decide)⟩

/-- Settles O53: a step is idle, an operation (a host command only between commands), or the command in progress that
goes on, and each keeps the invariant. -/
theorem stepKeepsTheInvariant : Obligations.StepKeepsTheInvariant := by
  intro s t h ht
  obtain ⟨-, -, hs⟩ | ⟨-, -, -, hs⟩ | ⟨i, r, hm, -, hs⟩ | ⟨ts, -, -, -, -, hs⟩ | ⟨ts, i, r, -, -, -, hi, hs⟩ |
    ⟨ts, hm, -, -, hs⟩ | ⟨hm, -, hs⟩ := step_cases s <;> rw [hs] at ht
  · cases ht; exact h
  · cases ht
  · exact exec_keeps_inv (h.of_choices r s.sched) (fun _ => hm) ht
  · cases ht
  · exact exec_keeps_inv (h.of_choices r ts) (fun hrole => absurd hrole hi) ht
  · cases ht
    exact (resume_keeps_running ((h.of_choices s.inbox ts).running_of_micro_ne_nil hm)).inv
  · cases ht
    exact (resume_keeps_running (h.running_of_micro_ne_nil hm)).inv

end Sys2Proof.Machine

/-! ## O50: each element is written by the operations of its row of R52's table alone -/

namespace Sys2Proof.Machine

/-! ### What a command that goes on leaves unchanged -/

/-- The micro-steps that M4 of SERVICE may add. -/
theorem eq_of_mem_reenable {rx : Bool} {m : Micro} (hm : m ∈ reenable rx) :
    m = .captureReset ∨ m = .attach ∨ m = .clearFinished := by
  cases rx
  · exact .inr (.inr (by simpa [reenable, rxEnable] using hm))
  · simp [reenable, rxEnable] at hm; tauto

/-- Let `f` be a view of the state that does not look at the command in progress, and `W` the micro-steps that change
it, M4 of SERVICE counting where it may add one. A command with none of `W` left to run leaves `f` unchanged. -/
theorem resume_keeps_view {α : Type} (f : State → α) (W : Micro → Prop)
    (hfree : ∀ s ms ts, f { s with micro := ms, sched := ts } = f s)
    (hkeep : ∀ m s, W m ∨ m = .checkFinished ∨ f (runMicro m s) = f s)
    (hadd : W .checkFinished ∨ ¬ W .captureReset ∧ ¬ W .attach ∧ ¬ W .clearFinished)
    {s : State} (hs : ∀ m, W m → m ∉ s.micro) : f (resume s) = f s := by
  refine (goOn_keeps (P := fun t => (∀ m, W m → m ∉ t.micro) ∧ f t = f s) ?_ commandFuel s ⟨hs, rfl⟩).2
  intro t m ms ts ⟨hW, hf⟩ hm
  have hm' : ¬ W m := fun hw => hW m hw (by simp [hm])
  have hms : ∀ m, W m → m ∉ ms := fun m hw hmem => hW m hw (by simp [hm, hmem])
  have hf' (ms : List Micro) : f { t with micro := ms, sched := ts } = f s := (hfree t ms ts).trans hf
  cases m with
  | checkFinished =>
    obtain ⟨hreset, hattach, hclear⟩ := hadd.resolve_left hm'
    simp only [runMicro]
    split
    · refine ⟨fun m hw hmem => ?_, hf' _⟩
      obtain hmem | hmem := List.mem_append.1 hmem
      · obtain rfl | rfl | rfl := eq_of_mem_reenable hmem
        · exact hreset hw
        · exact hattach hw
        · exact hclear hw
      · exact hms m hw hmem
    · exact ⟨hms, hf' _⟩
  | _ => exact ⟨hms, (((hkeep _ _).resolve_left hm').resolve_left (by simp)).trans (hf' _)⟩

/-- The parameters, the pins, the time, the deadlines and the TX state machine: no micro-step writes them. -/
theorem resume_untouched (s : State) :
    (resume s).cfg = s.cfg ∧ (resume s).initialized = s.initialized ∧ (resume s).rxPresent = s.rxPresent ∧
    (resume s).txPresent = s.txPresent ∧ (resume s).now = s.now ∧ (resume s).burstDeadline = s.burstDeadline ∧
    (resume s).frameDeadline = s.frameDeadline ∧ (resume s).txw = s.txw ∧ (resume s).txTotal = s.txTotal ∧
    (resume s).txBit = s.txBit ∧ (resume s).txStarted = s.txStarted ∧ (resume s).txPhase = s.txPhase ∧
    (resume s).txCount = s.txCount ∧ (resume s).txActive = s.txActive ∧ (resume s).carrierOut = s.carrierOut ∧
    (resume s).inbox = s.inbox := by
  simpa only [Prod.mk.injEq] using
    resume_keeps_view (s := s)
      (fun t => (t.cfg, t.initialized, t.rxPresent, t.txPresent, t.now, t.burstDeadline, t.frameDeadline, t.txw,
        t.txTotal, t.txBit, t.txStarted, t.txPhase, t.txCount, t.txActive, t.carrierOut, t.inbox))
      (fun _ => False) (fun _ _ _ => rfl) (fun m s => by cases m <;> simp [runMicro]) (by simp) (by simp)

theorem resume_busEnOut {s : State} (h : .driveBus ∉ s.micro) : (resume s).busEnOut = s.busEnOut :=
  resume_keeps_view State.busEnOut (· = .driveBus) (fun _ _ _ => rfl)
    (fun m s => by cases m <;> simp [runMicro]) (by simp) (by simpa using h)

theorem resume_txGate {s : State} (h : .openGate ∉ s.micro) : (resume s).txGate = s.txGate :=
  resume_keeps_view State.txGate (· = .openGate) (fun _ _ _ => rfl)
    (fun m s => by cases m <;> simp [runMicro]) (by simp) (by simpa using h)

theorem resume_frame {s : State} (h : ∀ n b, .decode n b ∉ s.micro) :
    (resume s).frame = s.frame ∧ (resume s).frameReady = s.frameReady := by
  simpa only [Prod.mk.injEq] using
    resume_keeps_view (s := s) (fun t => (t.frame, t.frameReady)) (fun m => ∃ n b, m = .decode n b)
      (fun _ _ _ => rfl) (fun m s => by cases m <;> simp [runMicro]) (by simp)
      (by rintro _ ⟨n, b, rfl⟩; exact h n b)

section WithoutCheck

variable {s : State} (hcheck : .checkFinished ∉ s.micro)
include hcheck

theorem resume_txFinished (h : .clearFinished ∉ s.micro) : (resume s).txFinished = s.txFinished :=
  resume_keeps_view State.txFinished (· ∈ [.checkFinished, .clearFinished]) (fun _ _ _ => rfl)
    (fun m s => by cases m <;> simp [runMicro]) (by simp) (by simp [hcheck, h])

theorem resume_attached (hattach : .attach ∉ s.micro) (hdetach : .detach ∉ s.micro) :
    (resume s).attached = s.attached :=
  resume_keeps_view State.attached (· ∈ [.checkFinished, .attach, .detach]) (fun _ _ _ => rfl)
    (fun m s => by cases m <;> simp [runMicro]) (by simp) (by simp [hcheck, hattach, hdetach])

theorem resume_capture (h : .captureReset ∉ s.micro) :
    (resume s).burstArmed = s.burstArmed ∧ (resume s).frameArmed = s.frameArmed ∧
    (resume s).receiving = s.receiving ∧ (resume s).frameEnd = s.frameEnd ∧ (resume s).edgeCount = s.edgeCount ∧
    (resume s).burstIdx = s.burstIdx ∧ (resume s).bursts = s.bursts := by
  simpa only [Prod.mk.injEq] using
    resume_keeps_view (s := s)
      (fun t => (t.burstArmed, t.frameArmed, t.receiving, t.frameEnd, t.edgeCount, t.burstIdx, t.bursts))
      (· ∈ [.checkFinished, .captureReset]) (fun _ _ _ => rfl) (fun m s => by cases m <;> simp [runMicro])
      (by simp) (by simp [hcheck, h])

end WithoutCheck

/-! ### What the host commands leave unchanged -/

/-- The micro-steps of START_TIMER. -/
theorem eq_of_mem_startTimer {rx : Bool} {m : Micro} (hm : m ∈ startTimer rx) :
    m ∈ [.captureReset, .detach, .driveBus, .openGate] := by
  cases rx <;> simp [startTimer, rxDisable] at hm ⊢ <;> tauto

/-- SEND leaves the parameters, the pins, the time, the deadlines, the decoded frame, `tx_finished` and the carrier
alone, accepted or not. -/
theorem sendBytes_frame {b : List Byte} {s t : State} (h : sendBytes b s = .next t) :
    t.cfg = s.cfg ∧ t.initialized = s.initialized ∧ t.rxPresent = s.rxPresent ∧ t.txPresent = s.txPresent ∧
    t.now = s.now ∧ t.burstDeadline = s.burstDeadline ∧ t.frameDeadline = s.frameDeadline ∧ t.frame = s.frame ∧
    t.frameReady = s.frameReady ∧ t.txFinished = s.txFinished ∧ t.carrierOut = s.carrierOut := by
  obtain ⟨-, -, ⟨-, rfl⟩ | ⟨-, -, rfl⟩ | ⟨-, -, rfl⟩⟩ := sendBytes_cases h
  · simp
  · simp
  · have hnot {m : Micro} (hm : m ∉ [.captureReset, .detach, .driveBus, .openGate]) :
        m ∉ startTimer s.rxPresent := fun hmem => hm (eq_of_mem_startTimer hmem)
    obtain ⟨hcfg, hinit, hrx, htx, hnow, hburst, hframe, -, -, -, -, -, -, -, hcarrier, -⟩ :=
      resume_untouched { acceptSend b s with micro := startTimer s.rxPresent }
    obtain ⟨hf, hready⟩ := resume_frame (s := { acceptSend b s with micro := startTimer s.rxPresent })
      (fun n b => hnot (by simp))
    exact ⟨hcfg, hinit, hrx, htx, hnow, hburst, hframe, hf, hready,
      resume_txFinished (hnot (by simp)) (hnot (by simp)), hcarrier⟩

/-- SERVICE leaves the parameters, the pins, the time, the deadlines, the TX state machine and the outputs alone. -/
theorem execService_frame {s t : State} (h : execService s = .next t) :
    t.cfg = s.cfg ∧ t.initialized = s.initialized ∧ t.rxPresent = s.rxPresent ∧ t.txPresent = s.txPresent ∧
    t.now = s.now ∧ t.burstDeadline = s.burstDeadline ∧ t.frameDeadline = s.frameDeadline ∧ t.txw = s.txw ∧
    t.txTotal = s.txTotal ∧ t.txBit = s.txBit ∧ t.txStarted = s.txStarted ∧ t.txPhase = s.txPhase ∧
    t.txCount = s.txCount ∧ t.txActive = s.txActive ∧ t.txGate = s.txGate ∧ t.busEnOut = s.busEnOut ∧
    t.carrierOut = s.carrierOut := by
  unfold execService at h
  split at h
  · cases h
  · cases h
    obtain ⟨hcfg, hinit, hrx, htx, hnow, hburst, hframe, hw, htot, hbit, hst, hph, hct, hact, hcarrier, -⟩ :=
      resume_untouched { s with micro := servicePlan s }
    exact ⟨hcfg, hinit, hrx, htx, hnow, hburst, hframe, hw, htot, hbit, hst, hph, hct, hact,
      resume_txGate (not_mem_servicePlan (by simp)), resume_busEnOut (not_mem_servicePlan (by simp)), hcarrier⟩

/-- READ and ACTIVE write no element but `frame_ready`, which READ clears. -/
theorem execRead_frame {s t : State} (h : execRead s = .next t) :
    ∃ ready trace, t = { s with frameReady := ready, trace := trace } := by
  unfold execRead notify at h
  split at h
  · cases h
  · split at h
    · split at h <;> cases h <;> exact ⟨_, _, rfl⟩
    · cases h; exact ⟨_, _, rfl⟩

theorem execActive_frame {s t : State} (h : execActive s = .next t) : ∃ trace, t = { s with trace := trace } := by
  unfold execActive at h
  split at h
  · cases h
  · cases h; exact ⟨_, rfl⟩

theorem execSetup_cfg {tx en rx : Bool} {s t : State} (h : execSetup tx en rx s = .next t) : t.cfg = s.cfg := by
  unfold execSetup at h
  split at h
  · cases h
  · cases h
    rw [recordAbsent_eq]
    exact (resume_untouched _).1

/-- A tick leaves alone all but the TX state machine, its outputs and the arbiter. -/
theorem tick_frame (s : State) :
    ∃ txw txBit txStarted txPhase txCount txActive txFinished txGate carrierOut busEnOut freeCount,
      tick s = { s with
        txw := txw, txBit := txBit, txStarted := txStarted, txPhase := txPhase, txCount := txCount
        txActive := txActive, txFinished := txFinished, txGate := txGate, carrierOut := carrierOut
        busEnOut := busEnOut, freeCount := freeCount } := by
  obtain ⟨-, ht⟩ | ⟨-, -, -, ht⟩ | ⟨-, -, -, -, ht⟩ | ⟨-, -, -, -, -, ht⟩ | ⟨-, -, -, -, -, ht⟩ | ⟨-, -, ht⟩ :=
    tick_cases s <;> rw [ht] <;> exact ⟨_, _, _, _, _, _, _, _, _, _, _, rfl⟩

/-! ### Every operation -/

/-- Settles O50: by cases on the operation, each through the lemma that says what it can do or what it leaves alone;
a command that goes on writes by its micro-steps alone. -/
theorem onlyTheListedOperationsWrite : Obligations.OnlyTheListedOperationsWrite := by
  refine ⟨fun i s t h => ?_, fun s => ⟨resume_untouched s, resume_busEnOut, resume_txGate, resume_frame,
    fun hcheck => ⟨resume_txFinished hcheck, resume_attached hcheck, resume_capture hcheck⟩⟩⟩
  cases i with
  | edge =>
    obtain ⟨-, rfl⟩ | ⟨-, -, rfl⟩ | ⟨-, -, -, -, rfl⟩ | ⟨-, -, -, rfl⟩ := execEdge_cases h <;>
      simp [isSetup, isTime, isSend, notEnabled]
  | burstAlarm =>
    obtain ⟨-, rfl⟩ | ⟨-, rfl⟩ := execBurstAlarm_cases h <;> simp [isSetup, isTime, isSend, notEnabled]
  | frameAlarm =>
    obtain ⟨-, rfl⟩ | ⟨-, rfl⟩ := execFrameAlarm_cases h <;> simp [isSetup, isTime, isSend, notEnabled]
  | txTick =>
    obtain ⟨-, rfl⟩ | ⟨-, rfl⟩ := execTxTick_cases h
    · obtain ⟨_, _, _, _, _, _, _, _, _, _, _, ht⟩ := tick_frame s
      simp [isSetup, isTime, isSend, ht]
    · simp [isSetup, isTime, isSend, notEnabled]
  | setup tx en rx => exact ⟨execSetup_cfg h, by simp [isSetup]⟩
  | service =>
    have hframe := execService_frame h
    simp [isSetup, isTime, isSend, hframe]
  | read =>
    obtain ⟨_, _, rfl⟩ := execRead_frame h
    simp [isSetup, isTime, isSend]
  | send b =>
    have hframe := sendBytes_frame h
    simp [isSetup, isTime, isSend, hframe]
  | sendHex c =>
    obtain ⟨_, -, rfl⟩ | ⟨b, -, hsend⟩ := execSendHex_cases h
    · simp [isSetup, isTime, isSend]
    · have hframe := sendBytes_frame hsend
      simp [isSetup, isTime, isSend, hframe]
  | active =>
    obtain ⟨_, rfl⟩ := execActive_frame h
    simp [isSetup, isTime, isSend]
  | time u =>
    obtain ⟨-, rfl⟩ | ⟨-, -, rfl⟩ | ⟨-, -, rfl⟩ := execTime_cases h <;> simp [isSetup, isTime, isSend, notEnabled]

end Sys2Proof.Machine

/-! ## O5, O6: the step's dispatch, and the gaps of a command in progress -/

namespace Sys2Proof.Machine

/-- The empty inbox spells no operation. -/
theorem decode_nil : decode [] = none := rfl

/-- Settles O5: what the step can do, case by case. Where the record is decoded, the inbox is neither empty nor
refused, and each of the four cases left is one clause of the statement; its premises contradict the other three. -/
theorem stepRunsTheDecodedOperation : Obligations.StepRunsTheDecodedOperation := by
  intro s i r hd
  obtain ⟨-, hb, -⟩ | ⟨-, -, hn, -⟩ | ⟨i', r', hm, hd', hstep⟩ | ⟨-, -, -, -, hn, -⟩ |
    ⟨ts', i', r', hm, hs, hd', hi, hstep⟩ | ⟨ts', hm, hs, hb, hstep⟩ | ⟨hm, hs, hstep⟩ := step_cases s
  · simp [hb, decode_nil] at hd
  · cases hn.symm.trans hd
  · cases hd'.symm.trans hd
    simp [hm, hstep]
  · cases hn.symm.trans hd
  · cases hd'.symm.trans hd
    simp [hm, hs, hi, hstep]
  · obtain hb | ⟨i', r', hd', hi⟩ := hb
    · simp [hb, decode_nil] at hd
    · cases hd'.symm.trans hd
      simp [hm, hs, hi, hstep]
  · simp [hm, hs, hstep]

/-- No micro-step takes a turn of the schedule: only going on from one to the next does. -/
@[simp] theorem runMicro_sched (m : Micro) (s : State) : (runMicro m s).sched = s.sched := by
  cases m with
  | checkFinished => simp only [runMicro]; split <;> rfl
  | _ => rfl

/-- Settles O6: a command waits in a gap given to an event (`goOn_waits`); one turn runs one micro-step
(`goOn_turn`), which leaves the schedule alone, so the command then waits in the event's gap. -/
theorem everyGapIsOpenToEvents : Obligations.EveryGapIsOpenToEvents := by
  refine fun s m ms ts hm => ⟨goOn_waits commandFuel s ts, fun hs => ?_⟩
  calc resume s = goOn 7 (runMicro m { s with micro := ms, sched := .event :: ts }) := goOn_turn 7 s m ms _ hm hs
    _ = runMicro m { s with micro := ms, sched := .event :: ts } := goOn_waits 7 _ ts (runMicro_sched m _)

end Sys2Proof.Machine

/-! ## O1, O2, O3, O4: the operation records -/

namespace Sys2Proof

/-! ### Opcode bytes -/

/-- The byte that stands for an opcode in R91's map. -/
def Opcode.toByte : Opcode → Byte
  | .edge => 0x01
  | .burstAlarm => 0x02
  | .frameAlarm => 0x03
  | .txTick => 0x04
  | .setup => 0x10
  | .service => 0x11
  | .read => 0x12
  | .send => 0x13
  | .sendHex => 0x14
  | .active => 0x15
  | .time => 0x20

@[simp] theorem Opcode.ofByte_toByte (o : Opcode) : Opcode.ofByte o.toByte = some o := by cases o <;> rfl

theorem Opcode.eq_toByte_of_ofByte {b : Byte} {o : Opcode} (h : Opcode.ofByte b = some o) : b = o.toByte := by
  obtain ⟨row, hfind, rfl⟩ := Option.map_eq_some_iff.1 h
  have hrow : ∀ row ∈ opcodeMap, row.1 = row.2.toByte := by decide
  rw [← hrow row (List.mem_of_find?_eq_some hfind)]
  have hb : row.1 = b := by simpa using List.find?_some hfind
  exact hb.symm

theorem decode_toByte_cons (o : Opcode) (r : List Byte) : decode (o.toByte :: r) = decodeOperands o r := by
  simp [decode]

/-- What decodes is an opcode byte and then what that opcode's operands decode from. -/
theorem eq_cons_of_decode {bs : List Byte} {x : Instr × List Byte} (h : decode bs = some x) :
    ∃ o rest, bs = Opcode.toByte o :: rest ∧ decodeOperands o rest = some x := by
  cases bs with
  | nil => cases h
  | cons b rest =>
    obtain ⟨o, ho, hrest⟩ := Option.bind_eq_some_iff.1 h
    exact ⟨o, rest, by rw [Opcode.eq_toByte_of_ofByte ho], hrest⟩

/-! ### The operand formats -/

/-- Formats FB and FH (R93, R94): a 16-bit length and that many bytes are read back, with what follows. -/
theorem takeCounted_leBytes {x : List Byte} (hx : x.length < 256 ^ 2) (r : List Byte) :
    takeCounted (leBytes 2 x.length ++ (x ++ r)) = some (x, r) := by
  have hlen : leNat (leBytes 2 x.length) = x.length := leNat_leBytes 2 _ hx
  simp only [leBytes] at hlen
  simp [takeCounted, leBytes, hlen]

/-- Formats FB and FH, the other direction: nothing else is read. -/
theorem eq_of_takeCounted {bs x r : List Byte} (h : takeCounted bs = some (x, r)) :
    x.length < 256 ^ 2 ∧ bs = leBytes 2 x.length ++ (x ++ r) := by
  match bs with
  | lo :: hi :: rest =>
    simp only [takeCounted] at h
    split at h
    · rename_i hle
      cases h
      have hlen : (rest.take (leNat [lo, hi])).length = leNat [lo, hi] := by simpa using hle
      have hbytes : leBytes 2 (leNat [lo, hi]) = [lo, hi] := leBytes_leNat [lo, hi]
      rw [hlen, hbytes]
      exact ⟨leNat_lt [lo, hi], by simp⟩
    · cases h

/-- Format FT (R95): 8 bytes of time. -/
theorem decodeOperands_time {t : Nat} (ht : t < 256 ^ 8) (r : List Byte) :
    decodeOperands .time (leBytes 8 t ++ r) = some (.time t, r) := by
  have htake : (leBytes 8 t ++ r).take 8 = leBytes 8 t := List.take_left' (leBytes_length 8 t)
  have hdrop : (leBytes 8 t ++ r).drop 8 = r := List.drop_left' (leBytes_length 8 t)
  have hlen : 8 ≤ (leBytes 8 t ++ r).length := by rw [List.length_append, leBytes_length]; omega
  rw [decodeOperands, if_pos hlen, htake, hdrop, leNat_leBytes 8 t ht]

/-- Format FT, the other direction. -/
theorem eq_of_decodeOperands_time {bs r : List Byte} {i : Instr} (h : decodeOperands .time bs = some (i, r)) :
    ∃ t, i = .time t ∧ t < 256 ^ 8 ∧ bs = leBytes 8 t ++ r := by
  simp only [decodeOperands] at h
  split at h
  · rename_i hle
    cases h
    have hlen : (bs.take 8).length = 8 := by simpa using hle
    have hbytes : leBytes 8 (leNat (bs.take 8)) = bs.take 8 := by
      simpa only [hlen] using leBytes_leNat (bs.take 8)
    have hlt : leNat (bs.take 8) < 256 ^ 8 := by simpa only [hlen] using leNat_lt (bs.take 8)
    exact ⟨_, rfl, hlt, by rw [hbytes, List.take_append_drop]⟩
  · cases h

/-- Bits 3 to 7 of a SETUP mask, the reserved ones (R96), are 0 exactly below 8. -/
theorem reservedBits_eq_zero_iff (m : Byte) : m.extractLsb' 3 5 = 0 ↔ m.toNat < 8 := by
  have := m.isLt
  rw [← BitVec.toNat_inj]
  simp only [BitVec.extractLsb'_toNat, Nat.shiftRight_eq_div_pow]
  simp
  omega

/-- A mask without reserved bits is the mask of its three pins. -/
theorem pinMask_getLsbD {m : Byte} (h : m.toNat < 8) :
    pinMask (m.getLsbD 0) (m.getLsbD 1) (m.getLsbD 2) = m := by
  have hall : ∀ k : Fin 8, pinMask ((BitVec.ofNat 8 k).getLsbD 0) ((BitVec.ofNat 8 k).getLsbD 1)
      ((BitVec.ofNat 8 k).getLsbD 2) = BitVec.ofNat 8 k := by decide
  simpa using hall ⟨m.toNat, h⟩

/-- Format FS (R96): the mask of three pins is read back. -/
theorem decodeOperands_pinMask (tx en rx : Bool) (r : List Byte) :
    decodeOperands .setup (pinMask tx en rx :: r) = some (.setup tx en rx, r) := by
  cases tx <;> cases en <;> cases rx <;> rfl

/-- Format FS, the other direction. -/
theorem eq_of_decodeOperands_setup {bs r : List Byte} {i : Instr} (h : decodeOperands .setup bs = some (i, r)) :
    ∃ tx en rx, i = .setup tx en rx ∧ bs = pinMask tx en rx :: r := by
  cases bs with
  | nil => cases h
  | cons m rest =>
    simp only [decodeOperands] at h
    split at h
    · rename_i hm
      cases h
      exact ⟨_, _, _, rfl, by rw [pinMask_getLsbD ((reservedBits_eq_zero_iff m).1 hm)]⟩
    · cases h

/-! ### Whole records -/

/-- Settles O1: the opcode byte gives the opcode, and each operand format reads its own bytes back. -/
theorem decodeInvertsEncode : Obligations.DecodeInvertsEncode := by
  intro i r hwf
  cases i with
  | setup tx en rx => exact (decode_toByte_cons .setup _).trans (decodeOperands_pinMask tx en rx r)
  | send b =>
    have hb : takeCounted (leBytes 2 b.length ++ b ++ r) = some (b, r) := by
      rw [List.append_assoc]; exact takeCounted_leBytes (by simpa [Instr.wf] using hwf) r
    exact (decode_toByte_cons .send _).trans (congrArg (Option.map _) hb)
  | sendHex chars =>
    have hc : takeCounted (leBytes 2 chars.length ++ chars ++ r) = some (chars, r) := by
      rw [List.append_assoc]; exact takeCounted_leBytes (by simpa [Instr.wf] using hwf) r
    exact (decode_toByte_cons .sendHex _).trans (congrArg (Option.map _) hc)
  | time t => exact (decode_toByte_cons .time _).trans (decodeOperands_time (by simpa [Instr.wf] using hwf) r)
  | edge | burstAlarm | frameAlarm | txTick | service | read | active => rfl

/-- Settles O2: by the opcode, what its operand format reads is what the encoder writes. -/
theorem decodeAcceptsOnlyRecords : Obligations.DecodeAcceptsOnlyRecords := by
  intro bs i r h
  obtain ⟨o, rest, rfl, hrest⟩ := eq_cons_of_decode h
  cases o with
  | setup =>
    obtain ⟨tx, en, rx, rfl, rfl⟩ := eq_of_decodeOperands_setup hrest
    exact ⟨rfl, rfl⟩
  | send =>
    obtain ⟨⟨b, r'⟩, hb, heq⟩ := Option.map_eq_some_iff.1 hrest
    cases heq
    obtain ⟨hlt, rfl⟩ := eq_of_takeCounted hb
    exact ⟨by simpa [Instr.wf] using hlt, by simp [encode, Opcode.toByte]⟩
  | sendHex =>
    obtain ⟨⟨c, r'⟩, hc, heq⟩ := Option.map_eq_some_iff.1 hrest
    cases heq
    obtain ⟨hlt, rfl⟩ := eq_of_takeCounted hc
    exact ⟨by simpa [Instr.wf] using hlt, by simp [encode, Opcode.toByte]⟩
  | time =>
    obtain ⟨t, rfl, hlt, rfl⟩ := eq_of_decodeOperands_time hrest
    exact ⟨by simpa [Instr.wf] using hlt, rfl⟩
  | edge | burstAlarm | frameAlarm | txTick | service | read | active => cases hrest; exact ⟨rfl, rfl⟩

/-! ### Refused records -/

/-- The opcodes of R91's map are the bytes that stand for an opcode: any other is reserved (R97). -/
theorem decode_reservedOpcode {b : Byte} (r : List Byte)
    (hb : b.toNat ∉ [0x01, 0x02, 0x03, 0x04, 0x10, 0x11, 0x12, 0x13, 0x14, 0x15, 0x20]) :
    decode (b :: r) = none := by
  rw [Option.eq_none_iff_forall_ne_some]
  intro x hx
  obtain ⟨o, rest, heq, -⟩ := eq_cons_of_decode hx
  cases heq
  revert hb
  cases o <;> decide

theorem decode_reservedMask {m : Byte} (r : List Byte) (hm : 8 ≤ m.toNat) : decode (0x10 :: m :: r) = none := by
  have hbits : ¬m.extractLsb' 3 5 = 0 := by rw [reservedBits_eq_zero_iff]; omega
  exact (decode_toByte_cons .setup _).trans (if_neg hbits)

/-- No record begins with another (R90, R99): were a proper part of a record to decode, its operation would be the whole
record's (O2 and O1), and nothing would be cut off. -/
theorem decode_cutShort {i : Instr} {k : Nat} (hwf : i.wf = true) (hk : k < (encode i).length) :
    decode ((encode i).take k) = none := by
  rw [Option.eq_none_iff_forall_ne_some]
  rintro ⟨j, r⟩ hj
  obtain ⟨hwfj, htake⟩ := decodeAcceptsOnlyRecords _ _ _ hj
  have hsplit : encode i ++ [] = encode j ++ (r ++ (encode i).drop k) := by
    rw [← List.append_assoc, ← htake, List.take_append_drop, List.append_nil]
  have hdecode := decodeInvertsEncode i [] hwf
  rw [hsplit, decodeInvertsEncode j _ hwfj] at hdecode
  have hdrop : r ++ (encode i).drop k = [] := congrArg Prod.snd (Option.some.inj hdecode)
  have := List.drop_eq_nil_iff.1 (List.append_eq_nil_iff.1 hdrop).2
  omega

end Sys2Proof

namespace Sys2Proof.Machine

/-- A step with bytes to run that spell no operation refuses them (R97). -/
theorem step_refuses_reserved {s : State} (hturn : s.micro = [] ∨ ∃ ts, s.sched = .event :: ts) (hb : s.inbox ≠ [])
    (hd : decode s.inbox = none) : step s = .refused .reserved := by
  obtain ⟨-, hb', -⟩ | ⟨-, -, -, hstep⟩ | ⟨i, r, -, hd', -⟩ | ⟨-, -, -, -, -, hstep⟩ | ⟨-, i, r, -, -, hd', -⟩ |
    ⟨-, -, -, hb' | ⟨i, r, hd', -⟩, -⟩ | ⟨hm, hs, -⟩ := step_cases s
  · exact absurd hb' hb
  · exact hstep
  · cases hd.symm.trans hd'
  · exact hstep
  · cases hd.symm.trans hd'
  · exact absurd hb' hb
  · cases hd.symm.trans hd'
  · obtain hm' | ⟨ts, hs'⟩ := hturn
    · exact absurd hm' hm
    · exact absurd hs' (hs ts)

/-- Settles O3, clause by clause. -/
theorem reservedRecordsAreRefused : Obligations.ReservedRecordsAreRefused :=
  ⟨fun _ r hb => decode_reservedOpcode r hb, fun _ r hm => decode_reservedMask r hm,
    fun _ _ hwf hk => decode_cutShort hwf hk, fun _ hturn hb hd => step_refuses_reserved hturn hb hd⟩

/-- Settles O4: each of the fifteen records is evaluated. -/
theorem specRecordsDecode : Obligations.SpecRecordsDecode := by
  refine ⟨?_, ?_, ?_, ?_, ?_, ?_, ?_, ?_, ?_, ?_, ?_, ?_, ?_, ?_, ?_⟩ <;> rfl

end Sys2Proof.Machine

/-! ## O26: the bursts of a sent frame decode to its bytes -/

namespace Sys2Proof.Machine

/-! ### Words and their bits -/

theorem testBit_bitsToNat (l : List Bool) (i : Nat) : (bitsToNat l).testBit i = l.getD i false := by
  induction l generalizing i with
  | nil => simp [bitsToNat]
  | cons b l ih =>
    have hbit : bitsToNat (b :: l) = Nat.bit b (bitsToNat l) := by
      rw [Nat.bit_val, bitsToNat, Nat.add_comm]
    cases i with
    | zero => rw [hbit, Nat.testBit_bit_zero]; rfl
    | succ i => rw [hbit, Nat.testBit_bit_succ, ih]; rfl

/-- Bit `i` of word `j` is the class of burst `1 + 9*j + i` (R145). -/
theorem getLsbD_wordAt (p : Params) (B : List Count) (j : Nat) {i : Nat} (hi : i < 9) :
    (wordAt p B j).getLsbD i = classify p (B.getD (1 + 9 * j + i) 0) := by
  rw [wordAt, BitVec.getLsbD_ofNat, testBit_bitsToNat]
  simp [wordBits, hi]

/-- The words of a capture are those whose bits its bursts have. -/
theorem map_wordAt_eq {p : Params} {B : List Count} {ws : List Word9}
    (h : ∀ j i, j < ws.length → i < 9 → classify p (B.getD (1 + 9 * j + i) 0) = (ws.getD j 0).getLsbD i) :
    (List.range ws.length).map (wordAt p B) = ws := by
  refine List.ext_getElem (by simp) fun j _ hj => ?_
  rw [List.getElem_map, List.getElem_range]
  refine BitVec.eq_of_getLsbD_eq fun i hi => ?_
  rw [getLsbD_wordAt p B j hi, h j i hj hi, List.getD_eq_getElem _ _ hj]

/-! ### Packed words -/

/-- The low bits of a packed word are the byte's, the next one is the parity bit (R82, R160). -/
theorem getLsbD_packWord (d : Byte) {i : Nat} (hi : i < 9) :
    (packWord d).getLsbD i = if i < 8 then d.getLsbD i else decide (parity d = 1) := by
  have hsplit : d.toNat + 256 * parity d = 2 ^ 8 * parity d + d.toNat := by omega
  have hparity : parity d = 0 ∨ parity d = 1 := by unfold parity; omega
  simp only [packWord, BitVec.getLsbD_ofNat, hi, decide_true, Bool.true_and, hsplit,
    Nat.testBit_two_pow_mul_add _ d.isLt]
  split
  · rfl
  · obtain rfl : i = 8 := by omega
    obtain h | h := hparity <;> simp [h]

theorem wordData_packWord (d : Byte) : wordData (packWord d) = d := by
  refine BitVec.eq_of_getLsbD_eq fun i hi => ?_
  simp [wordData, hi, getLsbD_packWord d (by omega : i < 9)]

/-- The parity bit counts with the byte's 1 bits. -/
theorem popcount_packWord (d : Byte) : popcount (packWord d) = popcount d + parity d := by
  have hparity : parity d = 0 ∨ parity d = 1 := by unfold parity; omega
  have hlow : ((List.range 8).countP fun i => (packWord d).getLsbD i) = popcount d := by
    refine List.countP_congr fun i hi => ?_
    have := List.mem_range.1 hi
    simp [getLsbD_packWord d (by omega : i < 9), this]
  have htop : (packWord d).getLsbD 8 = decide (parity d = 1) := getLsbD_packWord d (by omega)
  rw [popcount, List.range_succ, List.countP_append, hlow, List.countP_singleton, htop]
  obtain h | h := hparity <;> simp [h]

theorem wordParityOk_packWord (d : Byte) : wordParityOk (packWord d) = true := by
  have hodd : popcount (packWord d) % 2 = 1 := by rw [popcount_packWord, parity]; omega
  simp [wordParityOk, hodd]

/-! ### DECODE of packed words -/

/-- The words of a transmission all have odd parity, and their bytes are the data and its checksum (R164). -/
theorem all_wordParityOk_txWords (b : List Byte) : (txWords b).all wordParityOk = true := by
  simp [txWords, wordParityOk_packWord]

theorem map_wordData_txWords (b : List Byte) : (txWords b).map wordData = b ++ [checksum b] := by
  simp [txWords, Function.comp_def, wordData_packWord]

/-- DECODE of a capture whose words are those of a transmission of `b` gives `b` (R145). -/
theorem decodeFrame_txWords {p : Params} {B : List Count} {b : List Byte} (hstart : startOk p (B.getD 0 0) = true)
    (hwords : (List.range (b.length + 1)).map (wordAt p B) = txWords b) :
    decodeFrame p (1 + 9 * (b.length + 1)) B = .ok b := by
  have hbegin : ¬(1 + 9 * (b.length + 1) = 0 ∨ startOk p (B.getD 0 0) = false) := by rw [hstart]; simp
  have hlength : ¬((1 + 9 * (b.length + 1) - 1) % 9 ≠ 0 ∨ 1 + 9 * (b.length + 1) - 1 < 9) := by omega
  have hcount : (1 + 9 * (b.length + 1) - 1) / 9 = b.length + 1 := by omega
  rw [decodeFrame, if_neg hbegin, if_neg hlength, hcount, hwords]
  simp [all_wordParityOk_txWords, map_wordData_txWords]

/-! ### The bursts of a frame -/

theorem length_frameCounts (p : Params) (b : List Byte) : (frameCounts p b).length = 1 + 9 * (b.length + 1) := by
  simp only [frameCounts, txBits, List.length_cons, List.length_map, List.length_range]
  omega

/-- Burst `1 + 9*j + i` of the frame is the one sent for bit `i` of word `j` (R83, R84). -/
theorem getD_frameCounts (p : Params) (b : List Byte) {j i : Nat} (hj : j < b.length + 1) (hi : i < 9) :
    (frameCounts p b).getD (1 + 9 * j + i) 0 =
      BitVec.ofNat 16 ((if ((txWords b).getD j 0).getLsbD i then p.nOne else p.nZero) + 1) := by
  have hlt : 9 * j + i < (b.length + 1) * 9 := by omega
  have hdiv : (9 * j + i) / 9 = j := by omega
  have hmod : (9 * j + i) % 9 = i := by omega
  have hidx : 1 + 9 * j + i = (9 * j + i) + 1 := by omega
  simp [frameCounts, txBits, hidx, hlt, txBitOf, hdiv, hmod]

/-- Where the receiver tells the two bit bursts apart, it reads off each bit sent. -/
theorem classify_frameCounts {p : Params} (hzero : classify p (BitVec.ofNat 16 (p.nZero + 1)) = false)
    (hone : classify p (BitVec.ofNat 16 (p.nOne + 1)) = true) (b : List Byte) {j i : Nat} (hj : j < b.length + 1)
    (hi : i < 9) :
    classify p ((frameCounts p b).getD (1 + 9 * j + i) 0) = ((txWords b).getD j 0).getLsbD i := by
  rw [getD_frameCounts p b hj hi]
  cases ((txWords b).getD j 0).getLsbD i
  · exact hzero
  · exact hone

/-- Settles O26: the start marker is accepted, and the classes of the bursts are the bits of the packed words. -/
theorem decodeOfSentFrameIsTheBytes : Obligations.DecodeOfSentFrameIsTheBytes := by
  intro p b hstart hzero hone
  have hwords : (List.range (b.length + 1)).map (wordAt p (frameCounts p b)) = txWords b := by
    rw [← txWords_length]
    exact map_wordAt_eq fun j i hj hi =>
      classify_frameCounts hzero hone b (by rwa [txWords_length] at hj) hi
  exact ⟨length_frameCounts p b, decodeFrame_txWords hstart hwords⟩

end Sys2Proof.Machine

/-! ## O35: the notification string is read back -/

namespace Sys2Proof.Machine

theorem hexVal_hexDigit {v : Nat} (hv : v < 16) : hexVal (BitVec.ofNat 8 (hexDigit v).toNat) = some v := by
  have hall : ∀ v : Fin 16, hexVal (BitVec.ofNat 8 (hexDigit v).toNat) = some v.val := by decide
  exact hall ⟨v, hv⟩

theorem length_hexEncode (b : List Byte) : (hexEncode b).length = 2 * b.length := by
  induction b with
  | nil => rfl
  | cons x b ih => simp only [hexEncode, List.length_cons, ih]; omega

/-- The nibbles of bytes, the high one first (R87). -/
def nibbles : List Byte → List Nat
  | [] => []
  | x :: b => x.toNat / 16 :: x.toNat % 16 :: nibbles b

theorem length_nibbles (b : List Byte) : (nibbles b).length = 2 * b.length := by
  induction b with
  | nil => rfl
  | cons x b ih => simp only [nibbles, List.length_cons, ih]; omega

/-- The digits of the notification string have the nibbles as their values. -/
theorem hexVals_hexEncode (b : List Byte) :
    hexVals ((hexEncode b).map fun c => BitVec.ofNat 8 c.toNat) = some (nibbles b) := by
  induction b with
  | nil => rfl
  | cons x b ih =>
    have := x.isLt
    simp [hexEncode, hexVals, nibbles, ih, hexVal_hexDigit (by omega : x.toNat / 16 < 16),
      hexVal_hexDigit (by omega : x.toNat % 16 < 16)]

theorem hexPairs_nibbles (b : List Byte) : hexPairs (nibbles b) = b := by
  induction b with
  | nil => rfl
  | cons x b ih =>
    have hx : 16 * (x.toNat / 16) + x.toNat % 16 = x.toNat := by omega
    simp [nibbles, hexPairs, hx, ih]

/-- Settles O35: the digits' values are the nibbles, an even number of them, and pairs of nibbles are the bytes. -/
theorem hexDecodeInvertsHexEncode : Obligations.HexDecodeInvertsHexEncode := by
  intro p b hb
  refine ⟨length_hexEncode b, ?_⟩
  have hfits : ¬p.maxWordlen < b.length := by omega
  simp [hexDecode, hexVals_hexEncode, length_nibbles, hexPairs_nibbles, hfits]

end Sys2Proof.Machine

/-! ## O46: a sent frame, received edge by edge, is read back -/

namespace Sys2Proof.Machine

/-! ### Runs of operations -/

theorem execAll_append {is js : List Instr} {s t : State} (h : execAll is s = .next t) :
    execAll (is ++ js) s = execAll js t := by
  induction is generalizing s with
  | nil => cases h; rfl
  | cons i is ih =>
    simp only [execAll, List.cons_append] at h ⊢
    split at h
    · exact ih h
    · cases h
    · cases h

theorem execAll_cons {i : Instr} {is : List Instr} {s t : State} (h : exec i s = .next t) :
    execAll (i :: is) s = execAll is t := by
  simp only [execAll, h]

/-! ### The events that happen -/

/-- EDGE is counted where a handler is attached and no alarm is due (R110). -/
theorem exec_edge_counts {s : State} (hi : s.initialized = true) (hr : s.rxPresent = true) (ha : s.attached = true)
    (hb : s.burstArmed = true → s.now < s.burstDeadline) (hf : s.frameArmed = true → s.now < s.frameDeadline) :
    exec .edge s = .next (countEdge s) := by
  have hburst : burstEnabled s = false := by simpa [burstEnabled, hi] using hb
  have hframe : frameDue s = false := by simpa [frameDue, hi] using hf
  simp [exec, execEdge, edgeEnabled, frameEnabled, hi, hr, ha, hburst, hframe]

/-- TIME that goes forwards and passes no armed deadline moves `now` (R233). -/
theorem exec_time_moves {s : State} {u : Nat} (hi : s.initialized = true) (hu : s.now ≤ u)
    (hb : s.burstArmed = true → u ≤ s.burstDeadline) (hf : s.frameArmed = true → u ≤ s.frameDeadline) :
    exec (.time u) s = .next { s with now := u } := by
  have hburst : (!s.burstArmed || decide (u ≤ s.burstDeadline)) = true := by simpa [or_iff_not_imp_left] using hb
  have hframe : (!s.frameArmed || decide (u ≤ s.frameDeadline)) = true := by simpa [or_iff_not_imp_left] using hf
  have hen : timeEnabled u s = true := by simp [timeEnabled, hi, hu, hburst, hframe]
  simp [exec, execTime, hi, hen]

/-- BURST_ALARM at its deadline stores the burst (R113). -/
theorem exec_burstAlarm_stores {s : State} (hi : s.initialized = true) (ha : s.burstArmed = true)
    (hd : s.burstDeadline ≤ s.now) : exec .burstAlarm s = .next (storeBurst s) := by
  simp [exec, execBurstAlarm, burstEnabled, hi, ha, hd]

/-- FRAME_ALARM at its deadline, with no count left to store, marks the frame boundary (R117). -/
theorem exec_frameAlarm_marks {s : State} (hi : s.initialized = true) (ha : s.frameArmed = true)
    (hd : s.frameDeadline ≤ s.now) (hb : s.burstArmed = false) : exec .frameAlarm s = .next (markFrameEnd s) := by
  simp [exec, execFrameAlarm, frameEnabled, frameDue, burstEnabled, hi, ha, hd, hb]

/-! ### One burst -/

/-- The receiver can count an edge that comes now: the handler is attached and no alarm is due. -/
structure Listening (s : State) : Prop where
  initialized : s.initialized = true
  rxPresent : s.rxPresent = true
  attached : s.attached = true
  burstAhead : s.burstArmed = true → s.now < s.burstDeadline
  frameAhead : s.frameArmed = true → s.now < s.frameDeadline

/-- The state after `n` edges, the last of them at time `last` (R110). -/
def edgesCounted (n last : Nat) (s : State) : State :=
  { s with
    now := last
    receiving := true
    edgeCount := s.edgeCount + BitVec.ofNat 16 n
    burstDeadline := last + s.cfg.tBit
    burstArmed := true
    frameDeadline := last + s.cfg.tFrame
    frameArmed := true }

theorem countEdge_eq_edgesCounted (s : State) : countEdge s = edgesCounted 1 s.now s := rfl

theorem edgesCounted_edgesCounted (m n now last : Nat) (s : State) :
    edgesCounted n last (edgesCounted m now s) = edgesCounted (m + n) last s := by
  simp [edgesCounted, BitVec.ofNat_add, BitVec.add_assoc]

/-- Moving `now` before further edges come changes nothing: the last of them sets it. -/
theorem edgesCounted_now (n last u : Nat) (s : State) :
    edgesCounted n last { s with now := u } = edgesCounted n last s := rfl

/-- A train of edges whose gaps are below `T_BIT` is counted whole (R114). -/
theorem execAll_edgeTrain {s : State} {gaps : List Nat} (h : Listening s) (hp : s.cfg.tBit < s.cfg.tFrame)
    (hg : ∀ g ∈ gaps, g < s.cfg.tBit) :
    execAll (edgeTrain s.now gaps) s = .next (edgesCounted (gaps.length + 1) (s.now + gaps.sum) s) := by
  induction gaps generalizing s with
  | nil => exact execAll_cons (exec_edge_counts h.initialized h.rxPresent h.attached h.burstAhead h.frameAhead)
  | cons g gaps ih =>
    have hlt : g < s.cfg.tBit := hg g (by simp)
    have hedge := exec_edge_counts h.initialized h.rxPresent h.attached h.burstAhead h.frameAhead
    have htime : exec (.time (s.now + g)) (countEdge s) = .next { countEdge s with now := s.now + g } :=
      exec_time_moves h.initialized (by simp) (fun _ => by simp; omega) (fun _ => by simp; omega)
    have hnext : Listening { countEdge s with now := s.now + g } :=
      ⟨h.initialized, h.rxPresent, h.attached, fun _ => by simp; omega, fun _ => by simp; omega⟩
    calc execAll (edgeTrain s.now (g :: gaps)) s
        = execAll (edgeTrain (s.now + g) gaps) { countEdge s with now := s.now + g } :=
          (execAll_cons hedge).trans (execAll_cons htime)
      _ = .next (edgesCounted (gaps.length + 1) (s.now + g + gaps.sum) { countEdge s with now := s.now + g }) :=
          ih hnext hp fun g' hg' => hg g' (by simp [hg'])
      _ = .next (edgesCounted ((g :: gaps).length + 1) (s.now + (g :: gaps).sum) s) := by
          rw [edgesCounted_now, countEdge_eq_edgesCounted, edgesCounted_edgesCounted, List.length_cons, List.sum_cons,
            Nat.add_assoc, Nat.add_comm 1]

/-- The state at time `now`, after the alarm has stored a burst of `n` edges, the last at time `last` (R113). -/
def burstReceived (n last now : Nat) (s : State) : State :=
  { storeBurst (edgesCounted n last s) with now := now }

/-- A train of edges and the silence of `T_BIT` after it store one burst (R114). -/
theorem execAll_burst {s : State} {gaps : List Nat} (h : Listening s) (hp : s.cfg.tBit < s.cfg.tFrame)
    (hg : ∀ g ∈ gaps, g < s.cfg.tBit) :
    execAll (edgeTrain s.now gaps ++ [.time (s.now + gaps.sum + s.cfg.tBit), .burstAlarm]) s =
      .next (burstReceived (gaps.length + 1) (s.now + gaps.sum) (s.now + gaps.sum + s.cfg.tBit) s) := by
  have htime : exec (.time (s.now + gaps.sum + s.cfg.tBit)) (edgesCounted (gaps.length + 1) (s.now + gaps.sum) s) =
      .next { edgesCounted (gaps.length + 1) (s.now + gaps.sum) s with now := s.now + gaps.sum + s.cfg.tBit } :=
    exec_time_moves h.initialized (by simp [edgesCounted]) (fun _ => by simp [edgesCounted])
      (fun _ => by simp [edgesCounted]; omega)
  rw [execAll_append (execAll_edgeTrain h hp hg), execAll_cons htime]
  exact execAll_cons (exec_burstAlarm_stores h.initialized rfl le_rfl)

section Burst
variable {n last now : Nat} {s : State}

theorem burstReceived_bursts (h : s.edgeCount = 0) :
    (burstReceived n last now s).bursts = s.bursts.set s.burstIdx (BitVec.ofNat 16 n) := by
  simp [burstReceived, edgesCounted, h]

theorem burstReceived_burstIdx (h : s.burstIdx + 1 < s.cfg.rxCap) :
    (burstReceived n last now s).burstIdx = s.burstIdx + 1 := by
  have hwrap : s.burstIdx + 1 ≠ s.cfg.rxCap := by omega
  simp [burstReceived, edgesCounted, advance, hwrap]

/-- Between two bursts time passes the deadline of neither alarm. -/
theorem exec_time_burstReceived {u : Nat} (h : Listening s) (hu : now ≤ u) (hf : u ≤ last + s.cfg.tFrame) :
    exec (.time u) (burstReceived n last now s) = .next (burstReceived n last u s) :=
  exec_time_moves h.initialized hu (fun hb => by simp [burstReceived] at hb) (fun _ => hf)

end Burst

/-! ### The bursts of a frame -/

/-- The receiver awaits the first edge of a burst: every earlier count is stored. -/
structure AwaitsBurst (s : State) : Prop extends Listening s where
  edgeCount : s.edgeCount = 0
  burstArmed : s.burstArmed = false

theorem AwaitsBurst.burstReceived {n last now : Nat} {s : State} (h : AwaitsBurst s)
    (hnow : now < last + s.cfg.tFrame) : AwaitsBurst (burstReceived n last now s) :=
  { initialized := h.initialized, rxPresent := h.rxPresent, attached := h.attached
    burstAhead := fun hb => by simp [Machine.burstReceived] at hb
    frameAhead := fun _ => hnow, edgeCount := rfl, burstArmed := rfl }

/-- A burst of `c` edges that are 2 apart is stored, and time goes on to `u`. -/
theorem execAll_burst_time {c u : Nat} {s : State} (is : List Instr) (h : AwaitsBurst s)
    (hedges : 2 < s.cfg.tBit) (hc : 0 < c) (hp : s.cfg.tBit < s.cfg.tFrame)
    (hu : s.now + 2 * (c - 1) + s.cfg.tBit ≤ u) (hf : u ≤ s.now + 2 * (c - 1) + s.cfg.tFrame) :
    execAll (edgeTrain s.now (List.replicate (c - 1) 2) ++
        [.time (s.now + 2 * (c - 1) + s.cfg.tBit), .burstAlarm] ++ .time u :: is) s =
      execAll is (burstReceived c (s.now + 2 * (c - 1)) u s) := by
  have hsum : (List.replicate (c - 1) 2).sum = 2 * (c - 1) := by rw [List.sum_replicate_nat, Nat.mul_comm]
  have hcount : (List.replicate (c - 1) 2).length + 1 = c := by rw [List.length_replicate]; omega
  have hgaps : ∀ g ∈ List.replicate (c - 1) 2, g < s.cfg.tBit := fun g hg => by
    rw [List.eq_of_mem_replicate hg]; exact hedges
  have hburst := execAll_burst h.toListening hp hgaps
  rw [hsum, hcount] at hburst
  rw [execAll_append hburst, execAll_cons (exec_time_burstReceived h.toListening hu hf)]

/-- The state with a frame captured: its bursts stored in `bursts` below `idx`, its end marked at time `now`. The
deadlines are those of alarms that have fired. -/
def frameCaptured (now idx : Nat) (bursts : List Count) (burstDeadline frameDeadline : Nat) (s : State) : State :=
  { s with
    now := now
    burstIdx := idx
    bursts := bursts
    edgeCount := 0
    receiving := false
    frameEnd := true
    burstArmed := false
    frameArmed := false
    burstDeadline := burstDeadline
    frameDeadline := frameDeadline }

/-- The frame-end alarm, `T_FRAME` after the last edge of a stored burst, marks the frame boundary (R117). -/
theorem exec_frameAlarm_burstReceived {n last : Nat} {s : State} (hi : s.initialized = true) :
    exec .frameAlarm (burstReceived n last (last + s.cfg.tFrame) s) =
      .next (frameCaptured (last + s.cfg.tFrame) (burstReceived n last (last + s.cfg.tFrame) s).burstIdx
        (burstReceived n last (last + s.cfg.tFrame) s).bursts (last + s.cfg.tBit) (last + s.cfg.tFrame) s) :=
  exec_frameAlarm_marks hi rfl le_rfl rfl

theorem take_succ_set {α : Type} {l : List α} {i : Nat} (hi : i < l.length) (a : α) :
    (l.set i a).take (i + 1) = l.take i ++ [a] := by
  rw [List.take_succ_eq_append_getElem (by simpa using hi), List.take_set_of_le le_rfl, List.getElem_set_self]

/-- The bursts of a frame, each of at least one edge, are stored one after another, and the frame end is marked (R110
to R117): where the edges of a burst are closer than `T_BIT` and the bursts at least that far apart, but closer than
`T_FRAME`. -/
theorem execAll_receiveSteps {gap : Nat} {cs : List Nat} {s : State} (h : AwaitsBurst s) (hedges : 2 < s.cfg.tBit)
    (hbit : s.cfg.tBit ≤ gap) (hframe : gap < s.cfg.tFrame) (hne : cs ≠ []) (hcs : ∀ c ∈ cs, 0 < c)
    (hlen : s.bursts.length = s.cfg.rxCap) (hfit : s.burstIdx + cs.length < s.cfg.rxCap) :
    ∃ now bursts bd fd,
      execAll (receiveSteps s.cfg gap s.now cs) s =
        .next (frameCaptured now (s.burstIdx + cs.length) bursts bd fd s) ∧
      bursts.take (s.burstIdx + cs.length) = s.bursts.take s.burstIdx ++ cs.map (BitVec.ofNat 16) := by
  induction cs generalizing s with
  | nil => exact absurd rfl hne
  | cons c cs ih =>
    rw [List.length_cons] at hfit ⊢
    have hc : 0 < c := hcs c List.mem_cons_self
    have hp : s.cfg.tBit < s.cfg.tFrame := by omega
    have hidx (last now) : (burstReceived c last now s).burstIdx = s.burstIdx + 1 := burstReceived_burstIdx (by omega)
    have hbursts (last now) : (burstReceived c last now s).bursts = s.bursts.set s.burstIdx (BitVec.ofNat 16 c) :=
      burstReceived_bursts h.edgeCount
    have htake := take_succ_set (show s.burstIdx < s.bursts.length by omega) (BitVec.ofNat 16 c)
    by_cases hlast : cs = []
    · subst hlast
      refine ⟨s.now + 2 * (c - 1) + s.cfg.tFrame, _, s.now + 2 * (c - 1) + s.cfg.tBit,
        s.now + 2 * (c - 1) + s.cfg.tFrame, ?_, htake⟩
      simp only [receiveSteps, if_true]
      rw [execAll_burst_time _ h hedges hc hp (by omega) le_rfl,
        execAll_cons (exec_frameAlarm_burstReceived h.initialized), hidx, hbursts]
      rfl
    · have hnext : AwaitsBurst (burstReceived c (s.now + 2 * (c - 1)) (s.now + 2 * (c - 1) + gap) s) :=
        h.burstReceived (by omega)
      obtain ⟨now, bursts, bd, fd, hrun, hrest⟩ := ih hnext hedges hbit hframe hlast
        (fun d hd => hcs d (List.mem_cons_of_mem c hd)) (by rw [hbursts, List.length_set]; exact hlen)
        (by rw [hidx]; show _ < s.cfg.rxCap; omega)
      rw [hidx, (by omega : s.burstIdx + 1 + cs.length = s.burstIdx + (cs.length + 1))] at hrun hrest
      refine ⟨now, bursts, bd, fd, ?_, ?_⟩
      · simp only [receiveSteps, if_neg hlast]
        rw [execAll_burst_time _ h hedges hc hp (by omega) (by omega)]
        exact hrun
      · rw [hrest, hbursts, htake, List.append_assoc]
        rfl

/-! ### SERVICE and READ -/

/-- SERVICE's micro-steps M2 to M4 run with no event in their gaps, where no transmission has finished (R202, R203). -/
theorem startCommand_decode {n : Nat} {B : List Count} {s : State} (hs : s.sched = []) (hf : s.txFinished = false) :
    startCommand [.decode n B, .captureReset, .checkFinished] s =
      { captureReset (commitDecode n B s) with micro := [] } := by
  simp [startCommand, resume, commandFuel, goOn, runMicro, hs, hf, captureReset, commitDecode, record]

/-- The state after SERVICE of a pending frame: its bursts decoded, the capture reset (R202). -/
def frameServed (s : State) : State :=
  { captureReset (commitDecode s.burstIdx (s.bursts.take s.burstIdx) s) with micro := [] }

/-- SERVICE with a frame pending, no transmission finished and no event in its gaps: the captured bursts are decoded
and the capture is reset (R202). -/
theorem exec_service_pending {s : State} (hi : s.initialized = true) (hr : s.rxPresent = true)
    (hend : s.frameEnd = true) (hf : s.txFinished = false) (hs : s.sched = []) :
    exec .service s = .next (frameServed s) := by
  simp [exec, execService, servicePlan, hi, hr, hend, startCommand_decode hs hf, frameServed]

/-- READ of a valid frame hands it out with its notification string (R204, R206). -/
theorem exec_read_valid {s : State} {f : RawFrame} (hi : s.initialized = true) (hready : s.frameReady = true)
    (hf : handedFrame s.frame = f) (hv : f.valid = true) :
    exec .read s = .next (record (.notified (hexEncode f.data))
      (record (.readResult (some f)) { s with frameReady := false })) := by
  simp [exec, execRead, notify, hi, hready, hf, hv]

/-- READ with no frame ready returns None (R204). -/
theorem exec_read_none {s : State} (hi : s.initialized = true) (hready : s.frameReady = false) :
    exec .read s = .next (record (.readResult none) s) := by
  simp [exec, execRead, hi, hready]

/-- Two READs of a valid frame: the first hands it out, the second returns None (R204). -/
theorem execAll_read_read {s : State} {f : RawFrame} (hi : s.initialized = true) (hready : s.frameReady = true)
    (hf : handedFrame s.frame = f) (hv : f.valid = true) :
    execAll [.read, .read] s = .next (record (.readResult none) (record (.notified (hexEncode f.data))
      (record (.readResult (some f)) { s with frameReady := false }))) := by
  rw [execAll_cons (exec_read_valid hi hready hf hv)]
  exact execAll_cons (exec_read_none hi rfl)

/-- The frame that a decode to `b` leaves hands out `b`: what `FRAME.data` holds from `len` on is cut off. -/
theorem handedFrame_commitDecode {n : Nat} {B : List Count} {b : List Byte} {s : State}
    (h : decodeFrame s.cfg n B = .ok b) :
    handedFrame (commitDecode n B s).frame = { valid := true, len := b.length, data := b } := by
  simp [commitDecode, h, handedFrame, DecodeResult.valid, DecodeResult.data]

/-! ### The whole reception -/

theorem frameCounts_eq_map (p : Params) (b : List Byte) : frameCounts p b = (frameEdges p b).map (BitVec.ofNat 16) := by
  simp [frameCounts, frameEdges, Function.comp_def]

theorem length_frameEdges (p : Params) (b : List Byte) : (frameEdges p b).length = 1 + 9 * (b.length + 1) := by
  rw [← length_frameCounts p b, frameCounts_eq_map, List.length_map]

/-- Every burst of a frame has an edge. -/
theorem pos_of_mem_frameEdges {p : Params} {b : List Byte} {c : Nat} (hc : c ∈ frameEdges p b) : 0 < c := by
  simp only [frameEdges, List.mem_cons, List.mem_map] at hc
  obtain rfl | ⟨v, -, rfl⟩ := hc <;> omega

/-- A pending frame whose captured bursts decode to `b` is handed out by SERVICE, READ, once (R202, R204, R206). -/
theorem execAll_service_read_read {s : State} {b : List Byte} (hi : s.initialized = true) (hr : s.rxPresent = true)
    (hend : s.frameEnd = true) (hf : s.txFinished = false) (hs : s.sched = [])
    (hd : decodeFrame s.cfg s.burstIdx (s.bursts.take s.burstIdx) = .ok b) :
    ∃ t, execAll [.service, .read, .read] s = .next t ∧
      t.trace = [.readResult none, .notified (hexEncode b),
        .readResult (some { valid := true, len := b.length, data := b }), .outcome .ok] ++ s.trace ∧
      t.frameEnd = false ∧ t.burstIdx = 0 ∧ t.frameReady = false ∧ t.receiving = false ∧ t.attached = s.attached := by
  have hread := execAll_read_read (s := frameServed s) hi rfl (handedFrame_commitDecode hd) rfl
  refine ⟨_, (execAll_cons (exec_service_pending hi hr hend hf hs)).trans hread, ?_, rfl, rfl, rfl, rfl, rfl⟩
  simp [frameServed, commitDecode, hd, DecodeResult.code]

/-- Settles O46: the bursts of the frame are captured, one entry each, and fit; they are the frame's counts, which
decode to `b`; SERVICE and READ then hand `b` out. -/
theorem receivedFrameIsReadBack : Obligations.ReceivedFrameIsReadBack := by
  intro s b _ hbuffers hi hr ha _ hidx hcount hburst hframe _ hfin _ hs hstart hzero hone hedges hbit hgap hfit
  have hawaits : AwaitsBurst s :=
    { initialized := hi, rxPresent := hr, attached := ha, burstAhead := fun h => by simp [hburst] at h
      frameAhead := fun h => by simp [hframe] at h, edgeCount := hcount, burstArmed := hburst }
  have hroom : s.burstIdx + (frameEdges s.cfg b).length < s.cfg.rxCap := by
    rw [hidx, length_frameEdges, Params.rxCap]; omega
  obtain ⟨now, bursts, bd, fd, hrun, htake⟩ := execAll_receiveSteps hawaits hedges hbit hgap
    (by simp [frameEdges]) (fun c hc => pos_of_mem_frameEdges hc) hbuffers.1 hroom
  have hcaptured : bursts.take (frameEdges s.cfg b).length = frameCounts s.cfg b := by
    simpa [hidx, frameCounts_eq_map] using htake
  have hdecode : decodeFrame s.cfg (frameEdges s.cfg b).length (bursts.take (frameEdges s.cfg b).length) = .ok b := by
    rw [hcaptured, length_frameEdges]
    exact (decodeOfSentFrameIsTheBytes s.cfg b hstart hzero hone).2
  rw [hidx, Nat.zero_add] at hrun
  obtain ⟨t, ht, htrace, hrest⟩ := execAll_service_read_read
    (s := frameCaptured now (frameEdges s.cfg b).length bursts bd fd s) hi hr rfl hfin hs hdecode
  exact ⟨t, (execAll_append hrun).trans ht, htrace, ha ▸ hrest⟩

end Sys2Proof.Machine

/-! ## O13, O14, O15: the events of the Burst Capture Engine, one by one -/

namespace Sys2Proof.Machine

/-! ### Which event is enabled, in the terms of R228 -/

theorem burstEnabled_iff (s : State) :
    burstEnabled s = true ↔ s.initialized = true ∧ s.burstArmed = true ∧ s.burstDeadline ≤ s.now := by
  simp [burstEnabled, and_assoc]

theorem frameDue_iff (s : State) :
    frameDue s = true ↔ s.initialized = true ∧ s.frameArmed = true ∧ s.frameDeadline ≤ s.now := by
  simp [frameDue, and_assoc]

theorem frameEnabled_iff (s : State) :
    frameEnabled s = true ↔ (s.initialized = true ∧ s.frameArmed = true ∧ s.frameDeadline ≤ s.now) ∧
      ¬(s.burstArmed = true ∧ s.burstDeadline ≤ s.now ∧ s.burstDeadline ≤ s.frameDeadline) := by
  rw [frameEnabled, Bool.and_eq_true, frameDue_iff, and_congr_right_iff]
  rintro ⟨hi, -, -⟩
  rw [Bool.not_eq_true', ← Bool.not_eq_true, Bool.and_eq_true, burstEnabled_iff, decide_eq_true_eq]
  simp [hi, and_assoc]

/-- BURST_ALARM holds FRAME_ALARM back only where it is enabled itself, so that EDGE waits for either alarm that is
due. -/
theorem edgeEnabled_eq (s : State) : edgeEnabled s = (!burstEnabled s && !frameDue s) := by
  cases h : burstEnabled s <;> simp [edgeEnabled, frameEnabled, h]

theorem edgeEnabled_iff {s : State} (hi : s.initialized = true) :
    edgeEnabled s = true ↔ ¬(s.burstArmed = true ∧ s.burstDeadline ≤ s.now) ∧
      ¬(s.frameArmed = true ∧ s.frameDeadline ≤ s.now) := by
  rw [edgeEnabled_eq, Bool.and_eq_true, Bool.not_eq_true', Bool.not_eq_true', ← Bool.not_eq_true, ← Bool.not_eq_true,
    burstEnabled_iff, frameDue_iff]
  simp only [hi, true_and]

/-! ### Each event, where it is enabled and where it is not -/

theorem exec_burstAlarm_of_burstEnabled {s : State} (h : burstEnabled s = true) :
    exec .burstAlarm s = .next (storeBurst s) := by
  simp [exec, execBurstAlarm, h]

theorem exec_burstAlarm_notEnabled {s : State} (h : burstEnabled s = false) :
    exec .burstAlarm s = .next (notEnabled .burstAlarm s) := by
  simp [exec, execBurstAlarm, h]

theorem exec_frameAlarm_of_frameEnabled {s : State} (h : frameEnabled s = true) :
    exec .frameAlarm s = .next (markFrameEnd s) := by
  simp [exec, execFrameAlarm, h]

theorem exec_frameAlarm_notEnabled {s : State} (h : frameEnabled s = false) :
    exec .frameAlarm s = .next (notEnabled .frameAlarm s) := by
  simp [exec, execFrameAlarm, h]

theorem exec_edge_beforeSetup {s : State} (hi : s.initialized = false) : exec .edge s = .next s := by
  simp [exec, execEdge, hi]

theorem exec_edge_notEnabled {s : State} (hi : s.initialized = true) (h : edgeEnabled s = false) :
    exec .edge s = .next (notEnabled .edge s) := by
  simp [exec, execEdge, hi, h]

theorem exec_edge_of_edgeEnabled {s : State} (hi : s.initialized = true) (he : edgeEnabled s = true)
    (hr : s.rxPresent = true) (ha : s.attached = true) : exec .edge s = .next (countEdge s) := by
  simp [exec, execEdge, hi, he, hr, ha]

theorem exec_edge_lost {s : State} (h : edgeEnabled s = true) (hlost : s.rxPresent = false ∨ s.attached = false) :
    exec .edge s = .next s := by
  have hdeaf : (s.rxPresent && s.attached) = false := by simpa [imp_iff_not_or] using hlost
  simp [exec, execEdge, h, hdeaf]

/-- TIME passes the deadline of no armed alarm (R233). -/
theorem exec_time_pastDeadline {s : State} {t : Nat} (hi : s.initialized = true)
    (h : (s.burstArmed = true ∧ s.burstDeadline < t) ∨ (s.frameArmed = true ∧ s.frameDeadline < t)) :
    exec (.time t) s = .next (notEnabled .time s) := by
  have hen : timeEnabled t s = false := by
    obtain ⟨ha, hd⟩ | ⟨ha, hd⟩ := h <;> simp [timeEnabled, ha, hd]
  simp [exec, execTime, hi, hen]

/-! ### The three events -/

/-- The counter's own addition is the addition modulo 2^16. -/
theorem countEdge_edgeCount_eq (s : State) : (countEdge s).edgeCount = BitVec.ofNat 16 (s.edgeCount.toNat + 1) := by
  rw [BitVec.ofNat_add, BitVec.ofNat_toNat, BitVec.setWidth_eq]
  rfl

/-- Settles O13: the edge is counted, lost, or does not happen, as `edgeEnabled` and the handler say. -/
theorem edgeCountsAndRearmsBothAlarms : Obligations.EdgeCountsAndRearmsBothAlarms := by
  refine fun s => ⟨exec_edge_beforeSetup, fun hi hb hf => ?_, fun hi hdue => ⟨_, exec_edge_notEnabled hi ?_⟩⟩
  · have he : edgeEnabled s = true := (edgeEnabled_iff hi).2 ⟨hb, hf⟩
    refine ⟨fun hr ha => ?_, exec_edge_lost he⟩
    rw [exec_edge_of_edgeEnabled hi he hr ha, ← countEdge_edgeCount_eq]
    rfl
  · rw [← Bool.not_eq_true, edgeEnabled_iff hi]
    exact fun ⟨hb, hf⟩ => hdue.elim hb hf

/-- Settles O14: the alarm's condition is `burstEnabled`, and TIME stops at the deadline while it is armed. -/
theorem burstAlarmStoresAndAdvances : Obligations.BurstAlarmStoresAndAdvances := by
  refine fun s => ⟨exec_burstAlarm_stores, fun hnot => ⟨_, exec_burstAlarm_notEnabled ?_⟩,
    fun hi ha t ht => ⟨_, exec_time_pastDeadline hi (.inl ⟨ha, ht⟩)⟩⟩
  rwa [← Bool.not_eq_true, burstEnabled_iff]

/-- Settles O15: the alarm's condition is `frameEnabled`, and TIME stops at the deadline while it is armed. -/
theorem frameAlarmMarksTheBoundary : Obligations.FrameAlarmMarksTheBoundary := by
  refine fun s => ⟨fun hi ha hd hfirst => ?_, fun hnot => ⟨_, exec_frameAlarm_notEnabled ?_⟩,
    fun hi ha t ht => ⟨_, exec_time_pastDeadline hi (.inr ⟨ha, ht⟩)⟩⟩
  · exact exec_frameAlarm_of_frameEnabled ((frameEnabled_iff s).2 ⟨⟨hi, ha, hd⟩, hfirst⟩)
  · rw [← Bool.not_eq_true, frameEnabled_iff]
    exact fun ⟨hdue, hfirst⟩ => hnot.elim (absurd hdue) hfirst

end Sys2Proof.Machine

/-! ## O16, O17: bursts and the frame end -/

namespace Sys2Proof.Machine

/-- With both alarms disarmed no advance of time enables one: only an EDGE arms them (R118). -/
theorem exec_time_keeps_alarms_off {s t : State} {u : Nat} (hb : s.burstArmed = false) (hf : s.frameArmed = false)
    (h : exec (.time u) s = .next t) : frameEnabled t = false ∧ burstEnabled t = false := by
  have harmed : t.burstArmed = false ∧ t.frameArmed = false := by
    obtain ⟨-, rfl⟩ | ⟨-, -, rfl⟩ | ⟨-, -, rfl⟩ := execTime_cases h <;> exact ⟨hb, hf⟩
  simp [frameEnabled, frameDue, burstEnabled, harmed]

/-- Settles O16: the invariant keeps the burst-end alarm from being armed where the frame-end alarm is due, and a count
not yet stored has its alarm armed; FRAME_ALARM then leaves both alarms disarmed. -/
theorem lastBurstIsStoredBeforeFrameEnd : Obligations.LastBurstIsStoredBeforeFrameEnd := by
  intro s hinv he
  have hrun : Running s := hinv.running (frameDue_of_frameEnabled he).1
  have hburst : s.burstArmed = false := hrun.burstArmed_false_of_frameEnabled he
  obtain ⟨-, -, -, -, hcount, -, -⟩ := hrun.receive
  refine ⟨hburst, hcount hburst, markFrameEnd s, exec_frameAlarm_of_frameEnabled he, ?_,
    fun u v hv => exec_time_keeps_alarms_off (s := markFrameEnd s) hburst rfl hv⟩
  simp [frameEnabled, frameDue]

/-- Settles O17: the run ends in `burstReceived`, by induction on the gaps (`execAll_edgeTrain`); what it holds is read
off. -/
theorem edgeTrainGivesOneBurst : Obligations.EdgeTrainGivesOneBurst := by
  intro s gaps hi hr ha hburst hframe hcount hp hgaps
  have hlistening : Listening s := ⟨hi, hr, ha, fun hb => by simp [hburst] at hb, hframe⟩
  obtain ⟨-, -, hlt, -, -⟩ := hp
  exact ⟨_, execAll_burst hlistening hlt hgaps, burstReceived_bursts hcount, rfl, rfl, rfl, rfl, rfl, rfl, rfl, rfl,
    rfl⟩

end Sys2Proof.Machine

/-! ## O18, O19: CAPTURE_RESET and the alarms it may leave armed -/

namespace Sys2Proof.Machine

/-- Settles O18, by the two values of `RESET_DISARMS_ALARMS`. -/
theorem captureResetWritesTheCaptureOnly : Obligations.CaptureResetWritesTheCaptureOnly := by
  intro s
  cases h : s.cfg.resetDisarmsAlarms <;> simp [captureReset, Params.rxCap, h]

/-! ### What SERVICE makes of a pending capture, whatever the arbiter's state -/

/-- No micro-step but M2 of SERVICE writes the decoded frame or the trace. -/
theorem goOn_keeps_frame (k : Nat) {s : State} (h : ∀ n b, .decode n b ∉ s.micro) :
    (goOn k s).frame = s.frame ∧ (goOn k s).frameReady = s.frameReady ∧ (goOn k s).trace = s.trace := by
  refine (goOn_keeps (P := fun t => (∀ n b, .decode n b ∉ t.micro) ∧ t.frame = s.frame ∧
    t.frameReady = s.frameReady ∧ t.trace = s.trace) ?_ k s ⟨h, rfl, rfl, rfl⟩).2
  intro t m ms ts ⟨hnot, hkept⟩ hm
  have hms : ∀ n b, .decode n b ∉ ms := fun n b hmem => hnot n b (by simp [hm, hmem])
  cases m with
  | decode n b => exact absurd (by simp [hm]) (hnot n b)
  | checkFinished =>
    simp only [runMicro]
    split
    · refine ⟨fun n b hmem => ?_, hkept⟩
      obtain hmem | hmem := List.mem_append.1 hmem
      · simpa using eq_of_mem_reenable hmem
      · exact hms n b hmem
    · exact ⟨hms, hkept⟩
  | _ => exact ⟨hms, hkept⟩

/-- SERVICE with a frame pending and no event in its gaps leaves the decode of the capture as `FRAME`, with its outcome
code, whether or not it then enables the receive side again (R202, R203). -/
theorem exec_service_decodes {s : State} (hi : s.initialized = true) (hr : s.rxPresent = true)
    (hend : s.frameEnd = true) (hs : s.sched = []) :
    ∃ u, exec .service s = .next u ∧
      u.frame.valid = (decodeFrame s.cfg s.burstIdx (s.bursts.take s.burstIdx)).valid ∧
      u.frame.len = (decodeFrame s.cfg s.burstIdx (s.bursts.take s.burstIdx)).data.length ∧ u.frameReady = true ∧
      u.trace = .outcome (decodeFrame s.cfg s.burstIdx (s.bursts.take s.burstIdx)).code :: s.trace := by
  have hplan : servicePlan s = [.decode s.burstIdx (s.bursts.take s.burstIdx), .captureReset, .checkFinished] := by
    simp [servicePlan, hr, hend]
  have hstart : exec .service s = .next (goOn 8 { s with micro := servicePlan s }) := by
    simp [exec, execService, hi, startCommand, resume, commandFuel]
  have hdecode := goOn_free 7 { s with micro := servicePlan s } _ _ hplan hs
  obtain ⟨hframe, hready, htrace⟩ := goOn_keeps_frame 7
    (s := commitDecode s.burstIdx (s.bursts.take s.burstIdx) { s with micro := [.captureReset, .checkFinished] })
    (by simp)
  exact ⟨_, hstart.trans (congrArg Host.Outcome.next hdecode), congrArg RawFrame.valid hframe,
    congrArg RawFrame.len hframe, hready, htrace⟩

/-- Fewer bursts than a start marker and one word do not decode (R145). -/
theorem decodeFrame_short (p : Params) {N : Nat} (B : List Count) (hN : N < 10) :
    ∃ c, decodeFrame p N B = .failed c := by
  cases hd : decodeFrame p N B with
  | failed c => exact ⟨c, rfl⟩
  | ok d => have := decodeFrame_ok_length hd; omega

theorem decodeFrame_zero (p : Params) (B : List Count) : decodeFrame p 0 B = .failed .decStart := by
  simp [decodeFrame]

/-- SERVICE of a pending capture of fewer bursts than a start marker and one word reports an invalid frame. -/
theorem exec_service_short {s : State} (hi : s.initialized = true) (hr : s.rxPresent = true)
    (hend : s.frameEnd = true) (hs : s.sched = []) (hN : s.burstIdx < 10) :
    ∃ u, exec .service s = .next u ∧ u.frame.valid = false ∧ u.frame.len = 0 ∧ u.frameReady = true := by
  obtain ⟨u, hu, hvalid, hlen, hready, -⟩ := exec_service_decodes hi hr hend hs
  obtain ⟨c, hc⟩ := decodeFrame_short s.cfg (s.bursts.take s.burstIdx) hN
  rw [hc] at hvalid hlen
  exact ⟨u, hu, hvalid, hlen, hready⟩

/-! ### A stale burst-end alarm -/

/-- A burst stored in the cleared capture is a 0 in its first entry (R122). -/
theorem storeBurst_captureReset {s : State} (hp : s.cfg.Ok) :
    (storeBurst (captureReset s)).bursts.take 1 = [0] ∧ (storeBurst (captureReset s)).burstIdx = 1 := by
  have hcap : 1 < s.cfg.rxCap := by have := hp.1; rw [Params.rxCap]; omega
  constructor
  · rw [storeBurst_bursts, captureReset_burstIdx, captureReset_bursts, captureReset_edgeCount,
      take_succ_set (by simp; omega), List.take_zero, List.nil_append]
  · simp [advance, hcap.ne]

/-! ### The stale alarms, one after the other -/

section Stale

variable {s : State} (hd : s.cfg.resetDisarmsAlarms = false)
include hd

/-- Where a reset does not disarm the alarms, it leaves them as they were. -/
theorem captureReset_keeps_alarms :
    (captureReset s).burstArmed = s.burstArmed ∧ (captureReset s).frameArmed = s.frameArmed := by
  simp [hd]

/-- The burst-end alarm, then the frame-end alarm, each come to by TIME, fire into the cleared capture (R122). -/
theorem execAll_stale_both (hi : s.initialized = true) (hb : s.burstArmed = true) (hf : s.frameArmed = true)
    (hnow : s.now ≤ s.burstDeadline) (hle : s.burstDeadline ≤ s.frameDeadline) :
    execAll [.time s.burstDeadline, .burstAlarm, .time s.frameDeadline, .frameAlarm] (captureReset s) =
      .next { markFrameEnd (storeBurst (captureReset s)) with now := s.frameDeadline } := by
  obtain ⟨hb', hf'⟩ := captureReset_keeps_alarms hd
  have hburst : exec (.time s.burstDeadline) (captureReset s) =
      .next { captureReset s with now := s.burstDeadline } := exec_time_moves hi hnow (fun _ => le_rfl) (fun _ => hle)
  have hstore : exec .burstAlarm { captureReset s with now := s.burstDeadline } =
      .next { storeBurst (captureReset s) with now := s.burstDeadline } :=
    exec_burstAlarm_stores hi (hb'.trans hb) le_rfl
  have hframe : exec (.time s.frameDeadline) { storeBurst (captureReset s) with now := s.burstDeadline } =
      .next { storeBurst (captureReset s) with now := s.frameDeadline } :=
    exec_time_moves hi hle (fun h => by simp at h) (fun _ => le_rfl)
  rw [execAll_cons hburst, execAll_cons hstore, execAll_cons hframe]
  exact execAll_cons (exec_frameAlarm_marks hi (hf'.trans hf) le_rfl rfl)

/-- The frame-end alarm alone, come to by TIME, fires into the cleared capture (R122). -/
theorem execAll_stale_frame (hi : s.initialized = true) (hb : s.burstArmed = false) (hf : s.frameArmed = true)
    (hnow : s.now ≤ s.frameDeadline) :
    execAll [.time s.frameDeadline, .frameAlarm] (captureReset s) =
      .next { markFrameEnd (captureReset s) with now := s.frameDeadline } := by
  obtain ⟨hb', hf'⟩ := captureReset_keeps_alarms hd
  have htime : exec (.time s.frameDeadline) (captureReset s) = .next { captureReset s with now := s.frameDeadline } :=
    exec_time_moves hi hnow (fun h => by simp [hb] at h) (fun _ => le_rfl)
  rw [execAll_cons htime]
  exact execAll_cons (exec_frameAlarm_marks hi (hf'.trans hf) le_rfl (hb'.trans hb))

end Stale

/-- Settles O19: the runs of the stale alarms, then SERVICE of the one burst or of none; where the reset disarms the
alarms, time passes freely. -/
theorem staleAlarmsFireIntoTheClearedCapture : Obligations.StaleAlarmsFireIntoTheClearedCapture := by
  intro s hp hi
  obtain ⟨hbursts, hidx⟩ := storeBurst_captureReset hp
  refine ⟨fun hd => ⟨fun hb hdue => ?_, fun hb hf hnow hle => ?_, fun hb hf hnow => ?_⟩, fun hd t ht => ?_⟩
  · obtain ⟨hb', -⟩ := captureReset_keeps_alarms hd
    refine ⟨_, exec_burstAlarm_stores hi (hb'.trans hb) hdue, hbursts, hidx, rfl, ?_⟩
    obtain ⟨c, hc⟩ := decodeFrame_short s.cfg ((storeBurst (captureReset s)).bursts.take 1)
      (by omega : (storeBurst (captureReset s)).burstIdx < 10)
    rw [hc]
    rfl
  · refine ⟨_, execAll_stale_both hd hi hb hf hnow hle, hbursts, hidx, rfl, rfl, rfl, rfl, rfl, rfl, rfl, rfl,
      fun hr hs => exec_service_short hi hr rfl hs ?_⟩
    exact hidx.trans_lt (by decide)
  · refine ⟨_, execAll_stale_frame hd hi hb hf hnow, rfl, rfl, rfl, rfl, rfl, rfl, rfl, rfl, fun hr hs => ?_⟩
    obtain ⟨u, hu, hvalid, hlen, hready, htrace⟩ := exec_service_decodes
      (s := { markFrameEnd (captureReset s) with now := s.frameDeadline }) hi hr rfl hs
    rw [markFrameEnd_burstIdx, captureReset_burstIdx, decodeFrame_zero] at hvalid hlen htrace
    exact ⟨u, hu, hvalid, hlen, hready, htrace⟩
  · have hb : (captureReset s).burstArmed = false := by simp [hd]
    have hf : (captureReset s).frameArmed = false := by simp [hd]
    have htime : exec (.time t) (captureReset s) = .next { captureReset s with now := t } :=
      exec_time_moves hi ht (by simp [hd]) (by simp [hd])
    obtain ⟨hframe, hburst⟩ := exec_time_keeps_alarms_off hb hf htime
    exact ⟨_, htime, rfl, hburst, hframe⟩

end Sys2Proof.Machine

/-! ## O20, O21: RX_DISABLE with its entry reset and without -/

namespace Sys2Proof.Machine

/-- Settles O20: detaching and resetting commute, and a second reset changes nothing more. -/
theorem disableEntryResetMakesNoDifference : Obligations.DisableEntryResetMakesNoDifference := by
  intro s
  calc captureReset (detach (captureReset s)) = detach (captureReset (captureReset s)) := rfl
    _ = captureReset (detach s) := by rw [captureReset_captureReset]; rfl

/-! ### What an event does, a later reset does not tell whether there was an earlier one -/

theorem captureReset_notEnabled (e : EventKind) (s : State) :
    captureReset (notEnabled e (captureReset s)) = captureReset (notEnabled e s) :=
  congrArg (notEnabled e) (captureReset_captureReset s)

theorem captureReset_countEdge (s : State) :
    captureReset (countEdge (captureReset s)) = captureReset (countEdge s) := rfl

theorem captureReset_storeBurst (s : State) :
    captureReset (storeBurst (captureReset s)) = captureReset (storeBurst s) := by
  simp [captureReset, storeBurst]

theorem captureReset_markFrameEnd (s : State) :
    captureReset (markFrameEnd (captureReset s)) = captureReset (markFrameEnd s) := by
  simp [captureReset, markFrameEnd]

/-- What an event that RX_DISABLE's gaps admit can do. -/
theorem captureEvent_cases {i : Instr} {s t : State} (hi : i ∈ captureEvents) (h : exec i s = .next t) :
    t = s ∨ (∃ e, t = notEnabled e s) ∨
    (s.initialized = true ∧ s.rxPresent = true ∧ s.attached = true ∧ t = countEdge s) ∨
    t = storeBurst s ∨ t = markFrameEnd s := by
  obtain rfl | rfl | rfl : i = .edge ∨ i = .burstAlarm ∨ i = .frameAlarm := by simpa [captureEvents] using hi
  · obtain ⟨-, ht⟩ | ⟨-, -, ht⟩ | ⟨hs, -, hr, ha, ht⟩ | ⟨-, -, -, ht⟩ := execEdge_cases h
    · exact .inl ht
    · exact .inr (.inl ⟨_, ht⟩)
    · exact .inr (.inr (.inl ⟨hs, hr, ha, ht⟩))
    · exact .inl ht
  · obtain ⟨-, ht⟩ | ⟨-, ht⟩ := execBurstAlarm_cases h
    · exact .inr (.inr (.inr (.inl ht)))
    · exact .inr (.inl ⟨_, ht⟩)
  · obtain ⟨-, ht⟩ | ⟨-, ht⟩ := execFrameAlarm_cases h
    · exact .inr (.inr (.inr (.inr ht)))
    · exact .inr (.inl ⟨_, ht⟩)

/-! ### A reset that leaves the alarms armed: every run has its like -/

section AlarmsKept

variable {s : State} (hd : s.cfg.resetDisarmsAlarms = false)
include hd

theorem burstEnabled_captureReset : burstEnabled (captureReset s) = burstEnabled s := by
  rw [Bool.eq_iff_iff, burstEnabled_iff, burstEnabled_iff]
  simp [hd]

theorem frameEnabled_captureReset : frameEnabled (captureReset s) = frameEnabled s := by
  rw [Bool.eq_iff_iff, frameEnabled_iff, frameEnabled_iff]
  simp [hd]

theorem edgeEnabled_captureReset : edgeEnabled (captureReset s) = edgeEnabled s := by
  rw [edgeEnabled, edgeEnabled, burstEnabled_captureReset hd, frameEnabled_captureReset hd]

/-- An event happens after a reset exactly where it does without it, and ends alike up to what a reset clears. -/
theorem exec_captureReset {i : Instr} (hi : i ∈ captureEvents) :
    ∃ a b, exec i s = .next a ∧ exec i (captureReset s) = .next b ∧ captureReset b = captureReset a := by
  have hedge := edgeEnabled_captureReset hd
  have hburst := burstEnabled_captureReset hd
  have hframe := frameEnabled_captureReset hd
  obtain rfl | rfl | rfl : i = .edge ∨ i = .burstAlarm ∨ i = .frameAlarm := by simpa [captureEvents] using hi
  · by_cases hs : s.initialized = true
    · by_cases he : edgeEnabled s = true
      · by_cases hheard : s.rxPresent = true ∧ s.attached = true
        · obtain ⟨hr, ha⟩ := hheard
          exact ⟨_, _, exec_edge_of_edgeEnabled hs he hr ha, exec_edge_of_edgeEnabled hs (hedge.trans he) hr ha,
            captureReset_countEdge s⟩
        · have hlost : s.rxPresent = false ∨ s.attached = false := by
            simpa only [not_and_or, Bool.not_eq_true] using hheard
          exact ⟨_, _, exec_edge_lost he hlost, exec_edge_lost (hedge.trans he) hlost, captureReset_captureReset s⟩
      · have he := Bool.eq_false_iff.2 he
        exact ⟨_, _, exec_edge_notEnabled hs he, exec_edge_notEnabled hs (hedge.trans he),
          captureReset_notEnabled _ s⟩
    · have hs := Bool.eq_false_iff.2 hs
      exact ⟨_, _, exec_edge_beforeSetup hs, exec_edge_beforeSetup hs, captureReset_captureReset s⟩
  · cases he : burstEnabled s with
    | true =>
      exact ⟨_, _, exec_burstAlarm_of_burstEnabled he, exec_burstAlarm_of_burstEnabled (hburst.trans he),
        captureReset_storeBurst s⟩
    | false =>
      exact ⟨_, _, exec_burstAlarm_notEnabled he, exec_burstAlarm_notEnabled (hburst.trans he),
        captureReset_notEnabled _ s⟩
  · cases he : frameEnabled s with
    | true =>
      exact ⟨_, _, exec_frameAlarm_of_frameEnabled he, exec_frameAlarm_of_frameEnabled (hframe.trans he),
        captureReset_markFrameEnd s⟩
    | false =>
      exact ⟨_, _, exec_frameAlarm_notEnabled he, exec_frameAlarm_notEnabled (hframe.trans he),
        captureReset_notEnabled _ s⟩

end AlarmsKept

/-- From states that a reset makes equal, the same events end in states that a reset makes equal. -/
theorem execAll_alike {is : List Instr} {s s' a : State} (hd : s.cfg.resetDisarmsAlarms = false)
    (his : ∀ i ∈ is, i ∈ captureEvents) (hs : captureReset s' = captureReset s) (h : execAll is s = .next a) :
    a.cfg = s.cfg ∧ ∃ a', execAll is s' = .next a' ∧ captureReset a' = captureReset a := by
  induction is generalizing s s' with
  | nil => cases h; exact ⟨rfl, s', rfl, hs⟩
  | cons i is ih =>
    have hi : i ∈ captureEvents := his i List.mem_cons_self
    have hd' : s'.cfg.resetDisarmsAlarms = false := (congrArg (·.cfg.resetDisarmsAlarms) hs).trans hd
    obtain ⟨u, v, hu, hv, huv⟩ := exec_captureReset hd hi
    obtain ⟨u', v', hu', hv', huv'⟩ := exec_captureReset hd' hi
    rw [hs] at hv'
    cases hv.symm.trans hv'
    have hcfg : u.cfg = s.cfg := by
      obtain rfl | ⟨e, rfl⟩ | ⟨-, -, -, rfl⟩ | rfl | rfl := captureEvent_cases hi hu <;> rfl
    rw [execAll_cons hu] at h
    rw [execAll_cons hu', ← hcfg]
    exact ih (hcfg ▸ hd) (fun j hj => his j (List.mem_cons_of_mem i hj)) (huv'.symm.trans huv) h

/-- The runs of X2 and X3 from states that a reset makes equal have the same ends. -/
theorem disableEnds_alike {s s' t : State} (hd : s.cfg.resetDisarmsAlarms = false)
    (hs : captureReset s' = captureReset s) (h : DisableEnds false s t) : DisableEnds false s' t := by
  obtain ⟨before, between, a, b, hevents, ha, hb, rfl, htrace⟩ := h
  have hbefore : ∀ i ∈ before, i ∈ captureEvents := fun i hi => hevents i (List.mem_append_left _ hi)
  have hbetween : ∀ i ∈ between, i ∈ captureEvents := fun i hi => hevents i (List.mem_append_right _ hi)
  obtain ⟨hcfg, a', ha', haa'⟩ := execAll_alike hd hbefore hs ha
  have hdetached : captureReset (detach a') = captureReset (detach a) := congrArg detach haa'
  obtain ⟨-, b', hb', hbb'⟩ := execAll_alike (s := detach a) (hcfg ▸ hd) hbetween hdetached hb
  exact ⟨before, between, a', b', hevents, ha', hb', hbb'.symm, htrace.trans (congrArg State.trace hs).symm⟩

/-! ### A reset that disarms the alarms: only a counted edge can show, by the deadlines it sets -/

/-- What a reset leaves of a state, the trace aside. -/
def cleared (s : State) : State := { captureReset s with trace := [] }

theorem captureReset_eq_of_cleared {s t : State} (h : cleared t = cleared s) (htrace : t.trace = s.trace) :
    captureReset t = captureReset s :=
  calc captureReset t = { cleared t with trace := t.trace } := rfl
    _ = { cleared s with trace := s.trace } := by rw [h, htrace]
    _ = captureReset s := rfl

theorem cleared_countEdge_congr {s t : State} (h : cleared t = cleared s) :
    cleared (countEdge t) = cleared (countEdge s) :=
  calc cleared (countEdge t) = cleared (countEdge (cleared t)) := rfl
    _ = cleared (countEdge (cleared s)) := by rw [h]
    _ = cleared (countEdge s) := rfl

/-- An edge that comes now would be heard, if no alarm is due. -/
def Hears (s : State) : Prop := s.initialized = true ∧ s.rxPresent = true ∧ s.attached = true

/-- Up to what a reset clears, `t` is `s`, or `s` with an edge counted. -/
def AtMostAnEdgeLater (s t : State) : Prop :=
  cleared t = cleared s ∨ Hears s ∧ cleared t = cleared (countEdge s)

/-- A second edge at the same time sets the same deadlines. -/
theorem AtMostAnEdgeLater.of_countEdge {s t : State} (h : AtMostAnEdgeLater s t) (ht : Hears t) :
    AtMostAnEdgeLater s (countEdge t) := by
  obtain h | ⟨hs, h⟩ := h
  · have hears : Hears (cleared s) := h ▸ ht
    exact .inr ⟨hears, cleared_countEdge_congr h⟩
  · exact .inr ⟨hs, (cleared_countEdge_congr h).trans rfl⟩

theorem AtMostAnEdgeLater.cfg {s t : State} (h : AtMostAnEdgeLater s t) : t.cfg = s.cfg := by
  obtain h | ⟨-, h⟩ := h
  · exact (congrArg State.cfg h :)
  · exact (congrArg State.cfg h :)

section AlarmsDisarmed

variable {s : State} (hd : s.cfg.resetDisarmsAlarms = true)
include hd

theorem captureReset_storeBurst_disarmed : captureReset (storeBurst s) = captureReset s := by
  simp [captureReset, storeBurst, hd]

theorem captureReset_markFrameEnd_disarmed : captureReset (markFrameEnd s) = captureReset s := by
  simp [captureReset, markFrameEnd, hd]

theorem AtMostAnEdgeLater.of_execAll {is : List Instr} {a b : State} (his : ∀ i ∈ is, i ∈ captureEvents)
    (h : AtMostAnEdgeLater s a) (hrun : execAll is a = .next b) : AtMostAnEdgeLater s b := by
  induction is generalizing a with
  | nil => cases hrun; exact h
  | cons i is ih =>
    have hi : i ∈ captureEvents := his i List.mem_cons_self
    have his : ∀ j ∈ is, j ∈ captureEvents := fun j hj => his j (List.mem_cons_of_mem i hj)
    have hda : a.cfg.resetDisarmsAlarms = true := h.cfg ▸ hd
    have hsame {u : State} (hu : cleared u = cleared a) : AtMostAnEdgeLater s u := by
      rwa [AtMostAnEdgeLater, hu]
    cases hu : exec i a with
    | next u =>
      rw [execAll_cons hu] at hrun
      refine ih his ?_ hrun
      obtain rfl | ⟨e, rfl⟩ | ⟨hinit, hr, ha, rfl⟩ | rfl | rfl := captureEvent_cases hi hu
      · exact h
      · exact hsame rfl
      · exact h.of_countEdge ⟨hinit, hr, ha⟩
      · exact hsame (by rw [cleared, captureReset_storeBurst_disarmed hda]; rfl)
      · exact hsame (by rw [cleared, captureReset_markFrameEnd_disarmed hda]; rfl)
    | fault f => simp [execAll, hu] at hrun
    | refused r => simp [execAll, hu] at hrun

/-- A burst-end alarm that is due can fire first; a reset leaves no sign of it. -/
theorem exists_run_to_no_burstAlarm :
    ∃ is a, (∀ i ∈ is, i ∈ captureEvents) ∧ execAll is s = .next a ∧ burstEnabled a = false ∧
      captureReset a = captureReset s := by
  cases h : burstEnabled s with
  | false => exact ⟨[], s, by simp, rfl, h, rfl⟩
  | true =>
    exact ⟨[.burstAlarm], storeBurst s, by simp [captureEvents], execAll_cons (exec_burstAlarm_of_burstEnabled h),
      by simp [burstEnabled], captureReset_storeBurst_disarmed hd⟩

/-- The alarms that are due can fire first, so that an edge can come; a reset leaves no sign of them. -/
theorem exists_run_to_edgeEnabled :
    ∃ is a, (∀ i ∈ is, i ∈ captureEvents) ∧ execAll is s = .next a ∧ edgeEnabled a = true ∧
      captureReset a = captureReset s := by
  obtain ⟨is, a, his, hrun, hburst, hreset⟩ := exists_run_to_no_burstAlarm hd
  cases hframe : frameDue a with
  | false => exact ⟨is, a, his, hrun, by simp [edgeEnabled_eq, hburst, hframe], hreset⟩
  | true =>
    have hfires : frameEnabled a = true := by simp [frameEnabled, hframe, hburst]
    have hda : a.cfg.resetDisarmsAlarms = true := (congrArg (·.cfg.resetDisarmsAlarms) hreset).trans hd
    have hburst' : burstEnabled (markFrameEnd a) = false := hburst
    refine ⟨is ++ [.frameAlarm], markFrameEnd a, ?_,
      (execAll_append hrun).trans (execAll_cons (exec_frameAlarm_of_frameEnabled hfires)), ?_,
      (captureReset_markFrameEnd_disarmed hda).trans hreset⟩
    · simpa [or_imp, forall_and, captureEvents] using his
    · simp [edgeEnabled_eq, hburst', frameDue]

/-- The ends of the runs of X2 and X3: no edge was counted before X2, or one was. -/
theorem disableEnds_disarmed_iff (t : State) :
    DisableEnds false s t ↔
      t = captureReset (detach s) ∨ Hears s ∧ t = captureReset (detach (countEdge s)) := by
  constructor
  · rintro ⟨before, between, a, b, hevents, ha, hb, rfl, htrace⟩
    have hbefore : AtMostAnEdgeLater s a :=
      AtMostAnEdgeLater.of_execAll hd (fun i hi => hevents i (List.mem_append_left _ hi)) (.inl rfl) ha
    have hda : (detach a).cfg.resetDisarmsAlarms = true := hbefore.cfg ▸ hd
    have hbetween : cleared b = detach (cleared a) :=
      (AtMostAnEdgeLater.of_execAll hda (fun i hi => hevents i (List.mem_append_right _ hi)) (.inl rfl) hb).resolve_right
        fun ⟨⟨_, _, hatt⟩, _⟩ => by simp at hatt
    refine hbefore.imp (fun h => ?_) (fun ⟨hs, h⟩ => ⟨hs, ?_⟩)
    · exact captureReset_eq_of_cleared (s := detach s) (hbetween.trans (congrArg detach h)) htrace
    · exact captureReset_eq_of_cleared (s := detach (countEdge s)) (hbetween.trans (congrArg detach h)) htrace
  · rintro (rfl | ⟨⟨hi, hr, ha⟩, rfl⟩)
    · exact ⟨[], [], s, detach s, by simp, rfl, rfl, rfl, rfl⟩
    · obtain ⟨is, a, his, hrun, he, hreset⟩ := exists_run_to_edgeEnabled hd
      have hears : Hears (captureReset a) := by rw [hreset]; exact ⟨hi, hr, ha⟩
      obtain ⟨hi' : a.initialized = true, hr' : a.rxPresent = true, ha' : a.attached = true⟩ := hears
      refine ⟨is ++ [.edge], [], countEdge a, _, ?_,
        (execAll_append hrun).trans (execAll_cons (exec_edge_of_edgeEnabled hi' he hr' ha')), rfl, ?_, rfl⟩
      · simpa [or_imp, forall_and, captureEvents] using his
      · calc captureReset (detach (countEdge s)) = detach (captureReset (countEdge (captureReset s))) := rfl
          _ = detach (captureReset (countEdge (captureReset a))) := by rw [hreset]
          _ = captureReset (detach (countEdge a)) := rfl

end AlarmsDisarmed

/-- Settles O21: X1 is a reset before a run of X2 and X3. Where it leaves the alarms armed, the same events end alike;
where it disarms them, the ends are known, and a reset before does not show in them. -/
theorem disableEndsAlikeWithoutItsEntryReset : Obligations.DisableEndsAlikeWithoutItsEntryReset := by
  intro s t
  show DisableEnds false (captureReset s) t ↔ DisableEnds false s t
  have hs : captureReset (captureReset s) = captureReset s := captureReset_captureReset s
  cases hd : s.cfg.resetDisarmsAlarms with
  | false => exact ⟨disableEnds_alike hd hs.symm, disableEnds_alike hd hs⟩
  | true =>
    rw [disableEnds_disarmed_iff (s := captureReset s) hd, disableEnds_disarmed_iff hd,
      disableEntryResetMakesNoDifference s]
    rfl

end Sys2Proof.Machine

/-! ## O22 to O25 and O27 to O29: packed words, the checksum, the classifier and DECODE by its rule -/

namespace Sys2Proof.Machine

/-- Settles O22: the parity bit counts with the byte's 1 bits, and brings them to an odd number. -/
theorem packedWordHasOddParity : Obligations.PackedWordHasOddParity := by
  intro d
  have hparity : parity d = 0 ∨ parity d = 1 := by unfold parity; omega
  refine ⟨wordData_packWord d, by simpa [wordParityOk] using wordParityOk_packWord d, ?_, rfl⟩
  rw [getLsbD_packWord d (by omega)]
  obtain h | h := hparity <;> simp [h]

/-! ### The checksum -/

theorem byteSum_eq_sum (b : List Byte) : byteSum b = (b.map BitVec.toNat).sum := by
  induction b with
  | nil => rfl
  | cons x xs ih => rw [byteSum, ih, List.map_cons, List.sum_cons]

/-- Settles O23: the checksum is that of the sum, and a sum does not depend on the order. -/
theorem checksumIsTheSumModulo256 : Obligations.ChecksumIsTheSumModulo256 := by
  refine ⟨fun b => ?_, fun b c hperm => ?_⟩
  · rw [checksum, BitVec.toNat_ofNat, byteSum_eq_sum]
  · rw [checksum, checksum, byteSum_eq_sum, byteSum_eq_sum, (hperm.map BitVec.toNat).sum_eq]

/-! ### The classifier -/

/-- The class changes at `t`, from 0 below 0 (log 2). -/
def changesAt (g : Nat → Bool) : Nat → Bool
  | 0 => g 0
  | t + 1 => g (t + 1) != g t

/-- The number of changes up to `n` is odd exactly where the class at `n` is 1. -/
theorem odd_changesAt (g : Nat → Bool) (n : Nat) : ((List.range (n + 1)).countP (changesAt g) % 2 == 1) = g n := by
  induction n with
  | zero => cases h : g 0 <;> simp [changesAt, h]
  | succ n ih =>
    rw [List.range_succ, List.countP_append, List.countP_singleton, changesAt]
    cases h : g n <;> cases h' : g (n + 1) <;> simp [h] at ih ⊢ <;> omega

/-- Of the changes below `m`, those up to `n` are the changes in the first `n + 1` places. -/
theorem countP_le_changesAt (g : Nat → Bool) {n m : Nat} (h : n < m) :
    (((List.range m).filter (changesAt g)).countP fun t => decide (t ≤ n)) =
      (List.range (n + 1)).countP (changesAt g) := by
  obtain ⟨k, rfl⟩ := Nat.exists_eq_add_of_le (Nat.succ_le_of_lt h)
  have hlow : ((List.range (n + 1)).countP fun t => decide (t ≤ n) && changesAt g t) =
      (List.range (n + 1)).countP (changesAt g) := by
    refine List.countP_congr fun t ht => ?_
    simp [Nat.lt_succ_iff.1 (List.mem_range.1 ht)]
  have hhigh : (((List.range k).map (n + 1 + ·)).countP fun t => decide (t ≤ n) && changesAt g t) = 0 := by
    refine List.countP_eq_zero.2 fun t ht => ?_
    obtain ⟨i, -, rfl⟩ := List.mem_map.1 ht
    simp; omega
  rw [List.countP_filter, Nat.succ_eq_add_one, List.range_add, List.countP_append, hlow, hhigh, Nat.add_zero]

/-- Settles O24: the thresholds are the counts at which `f` changes. -/
theorem everyClassifierIsAParameter : Obligations.EveryClassifierIsAParameter := by
  intro f
  refine ⟨(List.range (2 ^ 16)).filter (changesAt fun n => f (BitVec.ofNat 16 n)), fun p c => ?_⟩
  rw [classify, countP_le_changesAt _ c.isLt, odd_changesAt, BitVec.ofNat_toNat, BitVec.setWidth_eq]

/-! ### DECODE, an equation for each of its ends (R145) -/

theorem startOk_iff (p : Params) (c : Count) : startOk p c = true ↔ p.startMin ≤ c.toNat ∧ c.toNat ≤ p.startMax := by
  simp [startOk]

theorem decodeFrame_decStart {p : Params} {N : Nat} {B : List Count} (h : N = 0 ∨ startOk p (B.getD 0 0) = false) :
    decodeFrame p N B = .failed .decStart := by
  rw [decodeFrame, if_pos h]

theorem decodeFrame_decLength {p : Params} {N : Nat} {B : List Count} (hN : N ≠ 0)
    (hstart : startOk p (B.getD 0 0) = true) (h : ∀ k, 1 ≤ k → N ≠ 1 + 9 * k) :
    decodeFrame p N B = .failed .decLength := by
  have hlength : (N - 1) % 9 ≠ 0 ∨ N - 1 < 9 := by
    have := h ((N - 1) / 9)
    omega
  have hbegin : ¬(N = 0 ∨ startOk p (B.getD 0 0) = false) := by rw [hstart]; simp [hN]
  rw [decodeFrame, if_neg hbegin, if_pos hlength]

/-- From a legal length on, DECODE depends on the words alone: their parity, then the last one against the others. -/
theorem decodeFrame_words {p : Params} {B : List Count} {m : Nat} {ws : List Word9} {w : Word9}
    (hstart : startOk p (B.getD 0 0) = true) (hwords : (List.range (m + 1)).map (wordAt p B) = ws ++ [w]) :
    decodeFrame p (1 + 9 * (m + 1)) B =
      if (ws ++ [w]).all wordParityOk = false then .failed .decParity
      else if wordData w ≠ checksum (ws.map wordData) then .failed .decChecksum else .ok (ws.map wordData) := by
  have hbegin : ¬(1 + 9 * (m + 1) = 0 ∨ startOk p (B.getD 0 0) = false) := by rw [hstart]; simp
  have hlength : ¬((1 + 9 * (m + 1) - 1) % 9 ≠ 0 ∨ 1 + 9 * (m + 1) - 1 < 9) := by omega
  have hcount : (1 + 9 * (m + 1) - 1) / 9 = m + 1 := by omega
  rw [decodeFrame, if_neg hbegin, if_neg hlength, hcount, hwords]
  simp only [List.map_append, List.map_singleton, List.getLastD_concat, List.dropLast_concat]

/-- The words of a capture, the last one apart. -/
theorem map_wordAt_succ (p : Params) (B : List Count) (m : Nat) :
    (List.range (m + 1)).map (wordAt p B) = (List.range m).map (wordAt p B) ++ [wordAt p B m] := by
  rw [List.range_succ, List.map_append, List.map_singleton]

theorem decodeFrame_decParity {p : Params} {B : List Count} {k j : Nat} (hstart : startOk p (B.getD 0 0) = true)
    (hj : j < k) (heven : wordParityOk (wordAt p B j) = false) :
    decodeFrame p (1 + 9 * k) B = .failed .decParity := by
  obtain ⟨m, rfl⟩ : ∃ m, k = m + 1 := ⟨k - 1, by omega⟩
  have hall : ((List.range (m + 1)).map (wordAt p B)).all wordParityOk = false :=
    List.all_eq_false.2 ⟨_, List.mem_map_of_mem (List.mem_range.2 hj), by simp [heven]⟩
  rw [decodeFrame_words hstart (map_wordAt_succ p B m), ← map_wordAt_succ, if_pos hall]

/-- Past the parity test, the last byte decides. -/
theorem decodeFrame_oddWords {p : Params} {B : List Count} {m : Nat} {ws : List Word9} {w : Word9}
    (hstart : startOk p (B.getD 0 0) = true) (hwords : (List.range (m + 1)).map (wordAt p B) = ws ++ [w])
    (hodd : (ws ++ [w]).all wordParityOk = true) :
    decodeFrame p (1 + 9 * (m + 1)) B =
      if wordData w ≠ checksum (ws.map wordData) then .failed .decChecksum else .ok (ws.map wordData) := by
  rw [decodeFrame_words hstart hwords, hodd, if_neg (by simp)]

/-- A word is given by the classes of its bursts. -/
theorem wordAt_eq {p : Params} {B : List Count} {j : Nat} {w : Word9}
    (h : ∀ i, i < 9 → w.getLsbD i = classify p (B.getD (1 + 9 * j + i) 0)) : wordAt p B j = w :=
  BitVec.eq_of_getLsbD_eq fun i hi => (getLsbD_wordAt p B j hi).trans (h i hi).symm

/-- Settles O25: an equation of DECODE for each clause, with `w j` the word the model reads. -/
theorem decodeByItsRule : Obligations.DecodeByItsRule := by
  refine fun p N B => ⟨fun h => decodeFrame_decStart ?_, fun hN hmin hmax => ?_, fun c => ⟨rfl, rfl, rfl⟩,
    fun d => ⟨rfl, rfl, rfl⟩⟩
  · rwa [← startOk_iff, Bool.not_eq_true] at h
  have hstart : startOk p (B.getD 0 0) = true := (startOk_iff p _).2 ⟨hmin, hmax⟩
  refine ⟨decodeFrame_decLength hN hstart, ?_⟩
  rintro k w hk rfl hbits
  have hword : ∀ j, j < k → wordAt p B j = w j := fun j hj => wordAt_eq fun i hi => hbits j i hj hi
  refine ⟨fun ⟨j, hj, heven⟩ => decodeFrame_decParity hstart hj (by simp [hword j hj, wordParityOk, heven]), ?_⟩
  intro hodd
  obtain ⟨m, rfl⟩ : ∃ m, k = m + 1 := ⟨k - 1, by omega⟩
  have hwords : (List.range (m + 1)).map (wordAt p B) = (List.range m).map w ++ [w m] := by
    rw [List.map_congr_left fun j hj => hword j (List.mem_range.1 hj), List.range_succ, List.map_append,
      List.map_singleton]
  have hoddWords : ((List.range m).map w ++ [w m]).all wordParityOk = true := by
    rw [← hwords, List.all_map, List.all_eq_true]
    intro j hj
    have hj := List.mem_range.1 hj
    simp [wordParityOk, hword j hj, hodd j hj]
  rw [decodeFrame_oddWords hstart hwords hoddWords, List.map_map]
  exact ⟨fun h => if_pos h, fun h => if_neg (not_not_intro h)⟩

/-- Settles O28: every word passes the parity test, and the last byte is not the checksum. -/
theorem wrongChecksumWordIsFound : Obligations.WrongChecksumWordIsFound := by
  intro p B b x hx hstart hbits
  have hwords : (List.range (b.length + 1)).map (wordAt p B) = b.map packWord ++ [packWord x] := by
    have := map_wordAt_eq (ws := b.map packWord ++ [packWord x]) (p := p) (B := B) fun j i hj hi =>
      hbits j i (by simpa [Nat.lt_succ_iff] using hj) hi
    simpa using this
  have hodd : (b.map packWord ++ [packWord x]).all wordParityOk = true := by simp [wordParityOk_packWord]
  have hdata : (b.map packWord).map wordData = b := by simp [Function.comp_def, wordData_packWord]
  rw [decodeFrame_oddWords hstart hwords hodd, hdata, wordData_packWord, if_pos hx]

/-- What DECODE has found of a capture it accepts: the start marker, the length, and the words' parity. -/
theorem eq_of_decodeFrame_ok {p : Params} {N : Nat} {B : List Count} {d : List Byte} (h : decodeFrame p N B = .ok d) :
    startOk p (B.getD 0 0) = true ∧ ∃ k, N = 1 + 9 * k ∧ ∀ j, j < k → wordParityOk (wordAt p B j) = true := by
  have hbegin : ¬(N = 0 ∨ startOk p (B.getD 0 0) = false) := fun hf => by simp [decodeFrame_decStart hf] at h
  obtain ⟨hN, hstart⟩ : N ≠ 0 ∧ startOk p (B.getD 0 0) = true := by simpa [not_or] using hbegin
  obtain ⟨k, hk⟩ : ∃ k, N = 1 + 9 * k := by
    by_contra hf
    simp [decodeFrame_decLength hN hstart fun k _ hk => hf ⟨k, hk⟩] at h
  refine ⟨hstart, k, hk, fun j hj => ?_⟩
  subst hk
  by_contra hf
  simp [decodeFrame_decParity hstart hj (Bool.eq_false_of_not_eq_true hf)] at h

/-- Words that differ in one bit differ in parity. -/
theorem popcount_mod_two_of_flip {n i : Nat} {v w : BitVec n} (hi : i < n) (hflip : v.getLsbD i ≠ w.getLsbD i)
    (hsame : ∀ k, k < n → k ≠ i → v.getLsbD k = w.getLsbD k) : popcount v % 2 ≠ popcount w % 2 := by
  have hperm : (List.range n).Perm (i :: (List.range n).erase i) := List.perm_cons_erase (List.mem_range.2 hi)
  have hrest : (((List.range n).erase i).countP fun k => v.getLsbD k) =
      ((List.range n).erase i).countP fun k => w.getLsbD k := by
    refine List.countP_congr fun k hk => ?_
    obtain ⟨hne, hmem⟩ := List.nodup_range.mem_erase_iff.1 hk
    rw [hsame k (List.mem_range.1 hmem) hne]
  rw [popcount, popcount, hperm.countP_eq, hperm.countP_eq, List.countP_cons, List.countP_cons, hrest]
  cases hv : v.getLsbD i <;> cases hw : w.getLsbD i <;> simp [hv, hw] at hflip ⊢ <;> omega

/-- A burst of the other class flips its bit of its word, and no other. -/
theorem wordParityOk_wordAt_set {p : Params} {B : List Count} {j i : Nat} {c : Count} (hi : i < 9)
    (hlen : 1 + 9 * j + i < B.length) (hc : classify p c ≠ classify p (B.getD (1 + 9 * j + i) 0)) :
    wordParityOk (wordAt p (B.set (1 + 9 * j + i) c) j) = !wordParityOk (wordAt p B j) := by
  have hflip : popcount (wordAt p (B.set (1 + 9 * j + i) c) j) % 2 ≠ popcount (wordAt p B j) % 2 := by
    refine popcount_mod_two_of_flip hi ?_ fun k hk hne => ?_
    · rw [getLsbD_wordAt p _ j hi, getLsbD_wordAt p B j hi]
      simpa [List.getD_eq_getElem?_getD, hlen] using hc
    · rw [getLsbD_wordAt p _ j hk, getLsbD_wordAt p B j hk]
      simp [List.getD_eq_getElem?_getD, List.getElem?_set_ne (by omega : 1 + 9 * j + i ≠ 1 + 9 * j + k)]
  rw [wordParityOk, wordParityOk, Bool.eq_not, ne_eq, Bool.eq_iff_iff, beq_iff_eq, beq_iff_eq]
  omega

/-- Settles O27: the word of the flipped burst had odd parity, and has it no longer. -/
theorem oneFlippedBitFailsTheParity : Obligations.OneFlippedBitFailsTheParity := by
  intro p N i B d c hok hN hi hiN hc
  obtain ⟨hstart, k, rfl, hodd⟩ := eq_of_decodeFrame_ok hok
  obtain ⟨j, b, hb, rfl⟩ : ∃ j b, b < 9 ∧ i = 1 + 9 * j + b := ⟨(i - 1) / 9, (i - 1) % 9, by omega, by omega⟩
  have hj : j < k := by omega
  have hstart' : startOk p ((B.set (1 + 9 * j + b) c).getD 0 0) = true := by
    rwa [List.getD_eq_getElem?_getD, List.getElem?_set_ne (by omega), ← List.getD_eq_getElem?_getD]
  refine decodeFrame_decParity hstart' hj ?_
  rw [wordParityOk_wordAt_set hb (by omega) hc, hodd j hj, Bool.not_true]

/-- Settles O29: the bytes and the checksum take nine bursts each, after the start marker. -/
theorem decodedLengthIsBounded : Obligations.DecodedLengthIsBounded := by
  intro p N B d hN hok
  have hlen := decodeFrame_ok_length hok
  rw [Params.rxCap] at hN
  omega

end Sys2Proof.Machine

/-! ## O31, O32, O33, O36, O41: SEND and SEND_HEX -/

namespace Sys2Proof.Machine

/-! ### SEND, an equation for each outcome (R163) -/

theorem exec_send_notSetup (b : List Byte) {s : State} (hi : s.initialized = false) :
    exec (.send b) s = .refused .notSetup := by
  simp [exec, execSend, sendBytes, hi]

section AfterSetup
variable {b : List Byte} {s : State} (hi : s.initialized = true)
include hi

theorem exec_send_txAbsent (htx : s.txPresent = false) : exec (.send b) s = .refused .txAbsent := by
  simp [exec, execSend, sendBytes, hi, htx]

variable (htx : s.txPresent = true)
include htx

theorem exec_send_busy (hbusy : s.txActive = true ∨ s.txFinished = true) :
    exec (.send b) s = .next (record (.outcome .rejBusy) s) := by
  simp [exec, execSend, sendBytes, txBusy, hi, htx, hbusy]

variable (ha : s.txActive = false) (hf : s.txFinished = false)
include ha hf

theorem exec_send_oversized (hb : s.cfg.maxWordlen - 1 < b.length) :
    exec (.send b) s = .next (record (.outcome .rejSize) s) := by
  simp [exec, execSend, sendBytes, txBusy, hi, htx, ha, hf, hb]

theorem exec_send_accepted (hb : b.length ≤ s.cfg.maxWordlen - 1) :
    exec (.send b) s = .next (startCommand (startTimer s.rxPresent) (acceptSend b s)) := by
  simp [exec, execSend, sendBytes, txBusy, hi, htx, ha, hf, Nat.not_lt.2 hb]

end AfterSetup

/-! ### An accepted SEND -/

/-- Without M4 of SERVICE to add micro-steps, what a command still has to run is the rest of what it had. -/
theorem resume_micro_suffix {s : State} (hcheck : .checkFinished ∉ s.micro) : (resume s).micro <:+ s.micro := by
  refine goOn_keeps (P := fun t => t.micro <:+ s.micro) (fun t m ms ts ht hm => ?_) commandFuel s List.suffix_rfl
  have hms : ms <:+ s.micro := (List.suffix_cons m ms).trans (hm ▸ ht)
  have hmem : m ∈ s.micro := ht.subset (by simp [hm])
  cases m with
  | checkFinished => exact absurd hmem hcheck
  | _ => exact hms

/-- Only the decode of SERVICE's M2 writes on the trace. -/
theorem resume_trace {s : State} (h : ∀ n b, .decode n b ∉ s.micro) : (resume s).trace = s.trace :=
  resume_keeps_view State.trace (fun m => ∃ n b, m = .decode n b) (fun _ _ _ => rfl)
    (fun m s => by cases m <;> simp [runMicro]) (by simp) (by rintro _ ⟨n, b, rfl⟩; exact h n b)

/-- Settles O31: SEND accepted, then START_TIMER run to its end. -/
theorem sendIsAcceptedAndStarts : Obligations.SendIsAcceptedAndStarts := by
  intro b s hi htx ha hf hb hs
  refine ⟨freeTxWords s.cfg s.freeCount (b.length + 1), s.freeCount + 1, freeTxWords_length _ _ _, ?_⟩
  rw [exec_send_accepted hi htx ha hf hb, startCommand_startTimer _ (acceptSend b s) hs]
  cases hrx : s.rxPresent <;> simp [afterSend, hrx, acceptSend, record, captureReset, txWords]

/-- Settles O32: the micro-steps of START_TIMER, as many as the schedule lets run, write none of these elements. -/
theorem sendStartsForEverySchedule : Obligations.SendStartsForEverySchedule := by
  intro b s hi htx ha hf hb
  have hsend := exec_send_accepted hi htx ha hf hb
  obtain ⟨-, -, -, -, hnow, -, -, hframe, hready, -, hcarrier⟩ := sendBytes_frame hsend
  have hnot {m : Micro} (hm : m ∉ [.captureReset, .detach, .driveBus, .openGate]) : m ∉ startTimer s.rxPresent :=
    fun hmem => hm (eq_of_mem_startTimer hmem)
  obtain ⟨-, -, -, -, -, -, -, hw, htot, hbit, hst, hph, hct, hact, -, -⟩ :=
    resume_untouched { acceptSend b s with micro := startTimer s.rxPresent }
  exact ⟨freeTxWords s.cfg s.freeCount (b.length + 1), _, hsend, hact, freeTxWords_length _ _ _, hw, htot, hbit, hst,
    hph, hct, resume_micro_suffix (hnot (by simp)), hnow, hframe, hready, hcarrier,
    resume_trace fun n b => hnot (by simp)⟩

/-- Settles O33: an equation for each outcome; that the accepted one sets `tx_active` and records OK is O32. -/
theorem rejectedSendChangesNothing : Obligations.RejectedSendChangesNothing := by
  refine fun b s => ⟨exec_send_notSetup b, exec_send_txAbsent, exec_send_busy, fun hi htx ha hf =>
    ⟨exec_send_oversized hi htx ha hf, fun hb => ?_⟩⟩
  obtain ⟨-, t, hsend, hact, -, -, -, -, -, -, -, -, -, -, -, -, htrace⟩ :=
    sendStartsForEverySchedule b s hi htx ha hf hb
  exact ⟨t, hsend, hact, htrace⟩

/-! ### SEND_HEX -/

theorem exec_sendHex_notSetup (c : List Byte) {s : State} (hi : s.initialized = false) :
    exec (.sendHex c) s = .refused .notSetup := by
  simp [exec, execSendHex, hi]

section SendHex
variable {c : List Byte} {s : State} (hi : s.initialized = true)
include hi

theorem exec_sendHex_txAbsent (htx : s.txPresent = false) : exec (.sendHex c) s = .refused .txAbsent := by
  simp [exec, execSendHex, hi, htx]

variable (htx : s.txPresent = true)
include htx

theorem exec_sendHex_decoded {b : List Byte} (hd : hexDecode s.cfg c = .ok b) :
    exec (.sendHex c) s = exec (.send b) s := by
  simp [exec, execSendHex, execSend, hi, htx, hd]

theorem exec_sendHex_rejected {e : OutcomeCode} (hd : hexDecode s.cfg c = .error e) :
    exec (.sendHex c) s = .next (record (.outcome e) s) := by
  simp [exec, execSendHex, hi, htx, hd]

end SendHex

/-- Settles O36: where the string decodes, SEND_HEX is SEND of its bytes, and O31 says how that ends. -/
theorem sendHexIsSendOfTheBytes : Obligations.SendHexIsSendOfTheBytes := by
  refine fun c s => ⟨exec_sendHex_notSetup c, exec_sendHex_txAbsent, fun hi htx =>
    ⟨fun b hd => ⟨exec_sendHex_decoded hi htx hd, fun ha hf hb hs => ?_⟩, fun _ => exec_sendHex_rejected hi htx⟩⟩
  rw [exec_sendHex_decoded hi htx hd]
  exact sendIsAcceptedAndStarts b s hi htx ha hf hb hs

/-! ### A transmission in progress -/

/-- While a transmission is in progress a SEND is rejected, so it writes on the trace alone (R163, R165). -/
theorem exec_isSend_transmitting {i : Instr} {s t : State} (ha : s.txActive = true) (hsend : isSend i = true)
    (h : exec i s = .next t) : ∃ l, t = record l s := by
  have hbusy {b : List Byte} (h : sendBytes b s = .next t) : ∃ l, t = record l s := by
    obtain ⟨-, -, ⟨-, rfl⟩ | ⟨hidle, -⟩ | ⟨hidle, -⟩⟩ := sendBytes_cases h
    · exact ⟨_, rfl⟩
    all_goals simp [txBusy, ha] at hidle
  cases i with
  | send b => exact hbusy h
  | sendHex c =>
    obtain ⟨e, -, rfl⟩ | ⟨b, -, hb⟩ := execSendHex_cases h
    · exact ⟨_, rfl⟩
    · exact hbusy hb
  | _ => cases hsend

theorem exec_setup_refused {i : Instr} {s : State} (hi : s.initialized = true) (hsetup : isSetup i = true) :
    exec i s = .refused .resetup := by
  cases i with
  | setup tx en rx => simp [exec, execSetup, hi]
  | _ => cases hsetup

/-- Settles O41: SETUP is refused and a SEND rejected as busy; of the other operations only TX_TICK, and no micro-step,
writes the TX state machine (O50). -/
theorem transmissionIsNotCancelled : Obligations.TransmissionIsNotCancelled := by
  intro s _ hi ha
  obtain ⟨-, -, -, -, -, -, -, -, -, hbit, -, -, hcount, hact, -⟩ := resume_untouched s
  refine ⟨fun i t htick h => ?_, hact.trans ha, hbit, hcount⟩
  cases hsetup : isSetup i with
  | true => cases (exec_setup_refused hi hsetup).symm.trans h
  | false =>
    cases hsend : isSend i with
    | true =>
      obtain ⟨l, rfl⟩ := exec_isSend_transmitting ha hsend h
      exact ⟨ha, rfl, rfl⟩
    | false =>
      obtain ⟨-, hwrites⟩ := onlyTheListedOperationsWrite.1 i s t h
      obtain ⟨-, -, -, -, -, -, -, htx, -⟩ := hwrites hsetup
      obtain ⟨-, -, hbit, -, -, hcount, hact, -⟩ := htx hsend htick
      exact ⟨hact.trans ha, hbit, hcount⟩

end Sys2Proof.Machine

/-! ## O34: HEX_DECODE by its rule -/

namespace Sys2Proof.Machine

/-! ### Digits -/

/-- The digits and their values (R87). -/
theorem hexVal_eq_some_iff (x : Byte) (v : Nat) : hexVal x = some v ↔
    (v < 10 ∧ x.toNat = 0x30 + v) ∨
      (10 ≤ v ∧ v < 16 ∧ (x.toNat = 0x41 + (v - 10) ∨ x.toNat = 0x61 + (v - 10))) := by
  unfold hexVal
  split_ifs <;> simp <;> omega

theorem hexVal_getD_lt (x : Byte) : (hexVal x).getD 0 < 16 := by
  cases h : hexVal x with
  | none => decide
  | some v => have := (hexVal_eq_some_iff x v).1 h; simp; omega

/-! ### Strings -/

theorem hexVals_eq_none {c : List Byte} (h : ∃ x ∈ c, hexVal x = none) : hexVals c = none := by
  induction c with
  | nil => simp at h
  | cons y c ih =>
    cases hy : hexVal y with
    | none => simp [hexVals, hy]
    | some v =>
      have hc : ∃ x ∈ c, hexVal x = none := by simpa [hy] using h
      simp [hexVals, ih hc]

theorem hexVals_eq_some {c : List Byte} (h : ∀ x ∈ c, hexVal x ≠ none) :
    hexVals c = some (c.map fun x => (hexVal x).getD 0) := by
  induction c with
  | nil => rfl
  | cons y c ih =>
    obtain ⟨hy, hc⟩ := List.forall_mem_cons.1 h
    obtain ⟨v, hv⟩ := Option.ne_none_iff_exists'.1 hy
    simp [hexVals, hv, ih hc]

theorem length_hexPairs : ∀ vs : List Nat, (hexPairs vs).length = vs.length / 2
  | [] => rfl
  | [_] => by simp [hexPairs]
  | _ :: _ :: r => by simp only [hexPairs, List.length_cons, length_hexPairs r]; omega

/-- Byte `j` pairs the digits `2j` and `2j + 1`, the high nibble first (R166). -/
theorem getD_hexPairs : ∀ (vs : List Nat) {j : Nat}, j < vs.length / 2 →
    (hexPairs vs).getD j 0 = BitVec.ofNat 8 (16 * vs.getD (2 * j) 0 + vs.getD (2 * j + 1) 0)
  | [], _, hj => by simp at hj
  | [_], _, hj => by simp at hj
  | _ :: _ :: _, 0, _ => rfl
  | _ :: _ :: r, _ + 1, hj => getD_hexPairs r (by simp only [List.length_cons] at hj; omega)

/-- Settles O34: the digits' values decide the digit test, their number the other two, and their pairs are the bytes. -/
theorem hexDecodeByItsRule : Obligations.HexDecodeByItsRule := by
  refine fun p c => ⟨fun h => by simp [hexDecode, hexVals_eq_none h], fun h => ?_, hexVal_eq_some_iff⟩
  have hvals := hexVals_eq_some h
  refine ⟨fun hodd => by simp [hexDecode, hvals, hodd], fun heven hlong => by simp [hexDecode, hvals, heven, hlong],
    fun heven hfits => ⟨hexPairs (c.map fun x => (hexVal x).getD 0), ?_, ?_, fun j hj => ?_⟩⟩
  · simp [hexDecode, hvals, heven, Nat.not_lt.2 hfits]
  · simp [length_hexPairs]
  · have hdigit (i : Nat) : (c.map fun x => (hexVal x).getD 0).getD i 0 = (hexVal (c.getD i 0)).getD 0 :=
      List.getD_map (f := fun x => (hexVal x).getD 0) (d := (0 : Byte)) c
    have hhi := hexVal_getD_lt (c.getD (2 * j) 0)
    have hlo := hexVal_getD_lt (c.getD (2 * j + 1) 0)
    rw [getD_hexPairs _ (by simpa using hj), hdigit, hdigit, BitVec.toNat_ofNat]
    omega

end Sys2Proof.Machine

/-! ## O37 to O40: the ticks of a transmission -/

namespace Sys2Proof.Machine

/-! ### TX_TICK, an equation for each branch (R170) -/

/-- TX_TICK is enabled and a transmission is in progress (R228, R42). -/
structure Ticking (s : State) : Prop where
  initialized : s.initialized = true
  txPresent : s.txPresent = true
  txGate : s.txGate = true
  txActive : s.txActive = true

theorem exec_txTick_enabled {s : State} (hi : s.initialized = true) (htx : s.txPresent = true)
    (hg : s.txGate = true) : exec .txTick s = .next (tick s) := by
  simp [exec, execTxTick, tickEnabled, hi, htx, hg]

section Branches
variable {s : State} (h : Ticking s)
include h

theorem Ticking.exec_txTick : exec .txTick s = .next (tick s) :=
  exec_txTick_enabled h.initialized h.txPresent h.txGate

/-- The finish (R171). -/
theorem Ticking.exec_finishTx (hc : s.txCount = 0) (hb : s.txBit = s.txTotal) :
    exec .txTick s = .next (finishTx s) := by
  simp [h.exec_txTick, tick, h.txActive, hc, hb]

/-- Burst over (R172). -/
theorem Ticking.exec_beginSilence (hc : s.txCount = 0) (hb : s.txBit ≠ s.txTotal) (hp : s.txPhase = .burst) :
    exec .txTick s = .next (beginSilence s) := by
  simp [h.exec_txTick, tick, h.txActive, hc, hb, hp]

/-- Silence over, nothing sent yet (R173). -/
theorem Ticking.exec_loadStart (hc : s.txCount = 0) (hb : s.txBit ≠ s.txTotal) (hp : s.txPhase = .silence)
    (hst : s.txStarted = false) : exec .txTick s = .next (loadStart s) := by
  simp [h.exec_txTick, tick, h.txActive, hc, hb, hp, hst]

/-- Silence over, the next bit (R173). -/
theorem Ticking.exec_loadBit (hc : s.txCount = 0) (hb : s.txBit ≠ s.txTotal) (hp : s.txPhase = .silence)
    (hst : s.txStarted = true) : exec .txTick s = .next (loadBit s) := by
  simp [h.exec_txTick, tick, h.txActive, hc, hb, hp, hst]

/-- Within a phase (R174). -/
theorem Ticking.exec_countDown (hc : s.txCount ≠ 0) : exec .txTick s = .next (countDown s) := by
  simp [h.exec_txTick, tick, h.txActive, hc]

end Branches

/-- Settles O37: each branch has its equation. -/
theorem tickBranchesBeforeTheFinish : Obligations.TickBranchesBeforeTheFinish := by
  intro s hi htx hg
  have hticking (ha : s.txActive = true) : Ticking s := ⟨hi, htx, hg, ha⟩
  refine ⟨fun ha => ?_, fun ha => (hticking ha).exec_beginSilence, fun ha => (hticking ha).exec_loadStart,
    fun ha => (hticking ha).exec_loadBit, fun ha => (hticking ha).exec_countDown⟩
  simp [exec_txTick_enabled hi htx hg, tick, ha]

/-- Settles O38: the finish branch has its equation; and no branch of a tick writes `attached`. -/
theorem finishTickDefersTheReenable : Obligations.FinishTickDefersTheReenable := by
  refine fun s => ⟨fun hi htx hg ha hc hb => ?_, fun t ht => ?_⟩
  · exact ⟨freeTxWords s.cfg s.freeCount 0, s.freeCount + 1, freeTxWords_length _ _ _,
      (Ticking.mk hi htx hg ha).exec_finishTx hc hb⟩
  · obtain ⟨-, rfl⟩ | ⟨-, rfl⟩ := execTxTick_cases ht
    · obtain ⟨_, _, _, _, _, _, _, _, _, _, _, htick⟩ := tick_frame s
      rw [htick]
    · rfl

/-! ### Phases -/

/-- A phase counts down to 0 over as many ticks as its countdown says. -/
theorem Ticking.execAll_countDown {n : Nat} {s : State} (h : Ticking s) (hn : s.txCount = n) :
    execAll (List.replicate n .txTick) s = .next { s with txCount := 0 } := by
  induction n generalizing s with
  | zero => cases s; cases hn; rfl
  | succ n ih =>
    have hcount : s.txCount ≠ 0 := by omega
    rw [List.replicate_succ, execAll_cons (h.exec_countDown hcount)]
    have hnext : Ticking (countDown s) := { h with }
    exact ih hnext (by simp [hn])

/-- Settles O39. -/
theorem phaseCountsDownOverItsLoad : Obligations.PhaseCountsDownOverItsLoad :=
  fun _ hi htx hg ha => (Ticking.mk hi htx hg ha).execAll_countDown rfl

/-- The tick that loads a phase, and the ticks over which the phase counts down. -/
theorem execAll_phase {n : Nat} {s t : State} (hload : exec .txTick s = .next t) (h : Ticking t)
    (hn : t.txCount = n) : execAll (List.replicate (n + 1) .txTick) s = .next { t with txCount := 0 } := by
  rw [List.replicate_succ, execAll_cons hload, h.execAll_countDown hn]

theorem execAll_replicate_add {i : Instr} {m n : Nat} {s t : State} (h : execAll (List.replicate m i) s = .next t) :
    execAll (List.replicate (m + n) i) s = execAll (List.replicate n i) t := by
  rw [← List.replicate_append_replicate, execAll_append h]

/-! ### The whole transmission -/

/-- The state at the end of the burst phase of bit `n`, counting from 1; at `n = 0`, of the start marker. -/
def bitsSent (n : Nat) (s : State) : State :=
  { s with txStarted := true, txPhase := .burst, txCount := 0, txBit := n, carrierOut := .on }

theorem Ticking.at_bitsSent {s : State} (h : Ticking s) (n : Nat) : Ticking (bitsSent n s) := { h with }

/-- The start marker takes `N_START + 1` ticks (R175). -/
theorem Ticking.execAll_start {s : State} (h : Ticking s) (hst : s.txStarted = false) (hp : s.txPhase = .silence)
    (hc : s.txCount = 0) (hb : s.txBit = 0) (htot : 0 < s.txTotal) :
    execAll (List.replicate (s.cfg.nStart + 1) .txTick) s = .next (bitsSent 0 s) := by
  have hload : exec .txTick s = .next (loadStart s) := h.exec_loadStart hc (by omega) hp hst
  have hticking : Ticking (loadStart s) := { h with }
  simpa [loadStart, bitsSent, hb] using execAll_phase hload hticking rfl

/-- A bit takes a silence phase of `N_SILENCE + 1` ticks and a burst phase of its load and one more (R175). -/
theorem Ticking.execAll_bit {s : State} {n : Nat} (h : Ticking s) (hn : n < s.txTotal) :
    execAll (List.replicate ((s.cfg.nSilence + 1) +
        ((if txBitOf s.txw n then s.cfg.nOne else s.cfg.nZero) + 1)) .txTick) (bitsSent n s) =
      .next (bitsSent (n + 1) s) := by
  have hbegin : exec .txTick (bitsSent n s) = .next (beginSilence (bitsSent n s)) :=
    (h.at_bitsSent n).exec_beginSilence rfl hn.ne rfl
  have hsilence : execAll (List.replicate (s.cfg.nSilence + 1) .txTick) (bitsSent n s) =
      .next { beginSilence (bitsSent n s) with txCount := 0 } := execAll_phase hbegin { h with } rfl
  have hquiet : Ticking { beginSilence (bitsSent n s) with txCount := 0 } := { h with }
  rw [execAll_replicate_add hsilence]
  exact execAll_phase (hquiet.exec_loadBit rfl hn.ne rfl rfl) { h with } rfl

theorem finishTick_succ (p : Params) (txw : List Word9) (n : Nat) :
    finishTick p (txBits txw (n + 1)) = finishTick p (txBits txw n) +
      ((p.nSilence + 1) + ((if txBitOf txw n then p.nOne else p.nZero) + 1)) := by
  simp [finishTick, txBits, List.range_succ, Nat.add_assoc]

/-- The first `n` bits of a transmission are sent after as many ticks as R175's sum over those bits says. -/
theorem Ticking.execAll_bits {s : State} (h : Ticking s) (hst : s.txStarted = false) (hp : s.txPhase = .silence)
    (hc : s.txCount = 0) (hb : s.txBit = 0) (htot : 0 < s.txTotal) {n : Nat} (hn : n ≤ s.txTotal) :
    execAll (List.replicate (finishTick s.cfg (txBits s.txw n)) .txTick) s = .next (bitsSent n s) := by
  induction n with
  | zero => exact h.execAll_start hst hp hc hb htot
  | succ n ih => rw [finishTick_succ, execAll_replicate_add (ih (by omega)), h.execAll_bit hn]

/-- A record of TX_TICK is never refused (R223, R228). -/
theorem exists_exec_txTick (s : State) : ∃ t, exec .txTick s = .next t := by
  simp only [exec, execTxTick]
  split <;> exact ⟨_, rfl⟩

theorem exists_execAll_txTick (k : Nat) (s : State) : ∃ t, execAll (List.replicate k .txTick) s = .next t := by
  induction k generalizing s with
  | zero => exact ⟨s, rfl⟩
  | succ k ih =>
    obtain ⟨u, hu⟩ := exists_exec_txTick s
    rw [List.replicate_succ, execAll_cons hu]
    exact ih u

/-- No tick starts a transmission, and only one that ends it writes `tx_finished`. -/
theorem exec_txTick_active {s t : State} (h : exec .txTick s = .next t) (ha : t.txActive = true) :
    s.txActive = true ∧ t.txFinished = s.txFinished := by
  obtain ⟨-, rfl⟩ | ⟨-, rfl⟩ := execTxTick_cases h
  · obtain ⟨-, ht⟩ | ⟨-, -, -, ht⟩ | ⟨-, -, -, -, ht⟩ | ⟨-, -, -, -, -, ht⟩ | ⟨-, -, -, -, -, ht⟩ | ⟨-, -, ht⟩ :=
      tick_cases s <;> rw [ht] at ha ⊢
    · exact ⟨ha, rfl⟩
    · cases ha
    all_goals exact ⟨ha, rfl⟩
  · exact ⟨ha, rfl⟩

/-- A transmission in progress after some ticks was in progress all along. -/
theorem execAll_txTick_active {k : Nat} {s t : State} (h : execAll (List.replicate k .txTick) s = .next t)
    (ha : t.txActive = true) : s.txActive = true ∧ t.txFinished = s.txFinished := by
  induction k generalizing s with
  | zero => cases h; exact ⟨ha, rfl⟩
  | succ k ih =>
    obtain ⟨u, hu⟩ := exists_exec_txTick s
    rw [List.replicate_succ, execAll_cons hu] at h
    obtain ⟨hact, hfin⟩ := ih h
    obtain ⟨hact', hfin'⟩ := exec_txTick_active hu hact
    exact ⟨hact', hfin.trans hfin'⟩

/-- Settles O40: after `F` ticks every bit is sent and the transmission still active, so it was active after any fewer;
the next tick takes the finish branch. -/
theorem transmissionFinishesOnTickF : Obligations.TransmissionFinishesOnTickF := by
  intro s hi htx hg ha hst hp hc hb htot
  have h : Ticking s := ⟨hi, htx, hg, ha⟩
  have hsent : execAll (List.replicate (finishTick s.cfg (txBits s.txw s.txTotal)) .txTick) s =
      .next (bitsSent s.txTotal s) := h.execAll_bits hst hp hc hb htot le_rfl
  refine ⟨fun k hk => ?_, finishTx (bitsSent s.txTotal s), ?_, rfl, rfl, rfl, rfl, rfl, rfl⟩
  · obtain ⟨t, ht⟩ := exists_execAll_txTick k s
    rw [← Nat.add_sub_cancel' hk, execAll_replicate_add ht] at hsent
    obtain ⟨hact, hfin⟩ := execAll_txTick_active hsent ha
    exact ⟨t, ht, hact, hfin.symm⟩
  · rw [execAll_replicate_add hsent]
    exact execAll_cons ((h.at_bitsSent _).exec_finishTx rfl rfl)

end Sys2Proof.Machine

/-! ## O42: the arbiter's transitions -/

namespace Sys2Proof.Machine

/-! ### The arbiter's state and the two elements it is a function of (R47) -/

theorem arbiter_eq_transmitting_iff (s : State) : arbiter s = .transmitting ↔ s.txActive = true := by
  unfold arbiter; split_ifs <;> simp_all

theorem arbiter_eq_pendingReenable_iff (s : State) :
    arbiter s = .pendingReenable ↔ s.txActive = false ∧ s.txFinished = true := by
  unfold arbiter; split_ifs <;> simp_all

theorem arbiter_eq_idle_iff (s : State) : arbiter s = .idle ↔ s.txActive = false ∧ s.txFinished = false := by
  unfold arbiter; split_ifs <;> simp_all

theorem arbiter_congr {s t : State} (ha : t.txActive = s.txActive) (hf : t.txFinished = s.txFinished) :
    arbiter t = arbiter s := by
  rw [arbiter, arbiter, ha, hf]

/-! ### A command that goes on -/

theorem resume_txActive (s : State) : (resume s).txActive = s.txActive := by
  obtain ⟨-, -, -, -, -, -, -, -, -, -, -, -, -, hact, -⟩ := resume_untouched s
  exact hact

/-- No micro-step sets `tx_finished`: only the finish tick does (R171). -/
theorem txFinished_of_resume {s : State} (h : (resume s).txFinished = true) : s.txFinished = true := by
  refine goOn_keeps (P := fun t => t.txFinished = true → s.txFinished = true) (fun t m ms ts ht _ => ?_) commandFuel s
    id h
  cases m with
  | checkFinished => simp only [runMicro]; split <;> exact ht
  | clearFinished => exact fun hfalse => by cases hfalse
  | _ => exact ht

/-- A command that goes on can only clear `tx_finished`, by SERVICE's M8, so it makes no transition but the third. -/
theorem arbiter_resume (s : State) :
    arbiter (resume s) = arbiter s ∨
      (arbiter s = .pendingReenable ∧ arbiter (resume s) = .idle ∧
        (.clearFinished ∈ s.micro ∨ .checkFinished ∈ s.micro)) := by
  have hact := resume_txActive s
  by_cases hfin : (resume s).txFinished = s.txFinished
  · exact .inl (arbiter_congr hact hfin)
  · have hmem : .clearFinished ∈ s.micro ∨ .checkFinished ∈ s.micro := by
      by_contra hnone
      obtain ⟨hclear, hcheck⟩ := not_or.1 hnone
      exact hfin (resume_txFinished hcheck hclear)
    obtain ⟨hbefore, hafter⟩ : s.txFinished = true ∧ (resume s).txFinished = false := by
      cases ht : (resume s).txFinished with
      | true => exact absurd (ht.trans (txFinished_of_resume ht).symm) hfin
      | false => exact ⟨by simpa [ht] using hfin, rfl⟩
    cases ha : s.txActive with
    | true => exact .inl (by rw [(arbiter_eq_transmitting_iff _).2 ha, arbiter_eq_transmitting_iff, hact, ha])
    | false =>
      exact .inr ⟨(arbiter_eq_pendingReenable_iff s).2 ⟨ha, hbefore⟩,
        (arbiter_eq_idle_iff _).2 ⟨hact.trans ha, hafter⟩, hmem⟩

/-! ### The three operations that make a transition -/

/-- SEND, rejected or accepted (R163, R164). -/
theorem arbiter_sendBytes {b : List Byte} {s t : State} (h : sendBytes b s = .next t) :
    arbiter t = arbiter s ∨ (arbiter s = .idle ∧ arbiter t = .transmitting) := by
  obtain ⟨-, -, ⟨-, rfl⟩ | ⟨-, -, rfl⟩ | ⟨hidle, -, rfl⟩⟩ := sendBytes_cases h
  · exact .inl rfl
  · exact .inl rfl
  · exact .inr ⟨(arbiter_eq_idle_iff s).2 (by simpa [txBusy] using hidle),
      (arbiter_eq_transmitting_iff _).2 (resume_txActive { acceptSend b s with micro := startTimer s.rxPresent })⟩

theorem arbiter_isSend {i : Instr} {s t : State} (hsend : isSend i = true) (h : exec i s = .next t) :
    arbiter t = arbiter s ∨ (arbiter s = .idle ∧ arbiter t = .transmitting) := by
  cases i with
  | send b => exact arbiter_sendBytes h
  | sendHex c =>
    obtain ⟨e, -, rfl⟩ | ⟨b, -, hb⟩ := execSendHex_cases h
    · exact .inl rfl
    · exact arbiter_sendBytes hb
  | _ => cases hsend

/-- Of TX_TICK's branches only the finish makes a transition (R171). -/
theorem arbiter_execTxTick {s t : State} (h : execTxTick s = .next t) :
    arbiter t = arbiter s ∨ (arbiter s = .transmitting ∧ arbiter t = .pendingReenable) := by
  obtain ⟨-, rfl⟩ | ⟨-, rfl⟩ := execTxTick_cases h
  · obtain ⟨-, ht⟩ | ⟨ha, -, -, ht⟩ | ⟨-, -, -, -, ht⟩ | ⟨-, -, -, -, -, ht⟩ | ⟨-, -, -, -, -, ht⟩ | ⟨-, -, ht⟩ :=
      tick_cases s <;> rw [ht]
    · exact .inl rfl
    · exact .inr ⟨(arbiter_eq_transmitting_iff s).2 ha, rfl⟩
    all_goals exact .inl rfl
  · exact .inl rfl

theorem exec_service_eq {s : State} (hi : s.initialized = true) :
    exec .service s = .next (resume { s with micro := servicePlan s }) := by
  simp [exec, execService, startCommand, hi]

/-- After SETUP the operations but SEND, SEND_HEX, TX_TICK and SERVICE write neither element of the arbiter (O50). -/
theorem exec_keeps_arbiter {i : Instr} {s t : State} (hi : s.initialized = true) (h : exec i s = .next t)
    (hsend : isSend i = false) (htick : i ≠ .txTick) (hservice : i ≠ .service) :
    t.txActive = s.txActive ∧ t.txFinished = s.txFinished := by
  have hsetup : isSetup i = false := by
    rw [← Bool.not_eq_true]
    intro hsetup
    cases (exec_setup_refused hi hsetup).symm.trans h
  obtain ⟨-, -, -, -, -, -, -, htx, hfin, -⟩ := (onlyTheListedOperationsWrite.1 i s t h).2 hsetup
  obtain ⟨-, -, -, -, -, -, hact, -⟩ := htx hsend htick
  exact ⟨hact, hfin htick hservice⟩

/-- Settles O42: by whether the operation is a SEND, TX_TICK, SERVICE or none of them; a command that goes on by
`arbiter_resume`. -/
theorem arbiterHasThreeTransitions : Obligations.ArbiterHasThreeTransitions := by
  intro s _ hi
  refine ⟨fun i t h => ⟨?_, exec_keeps_arbiter hi h⟩, arbiter_resume s, resume_txActive s⟩
  by_cases hsend : isSend i = true
  · exact (arbiter_isSend hsend h).imp_right fun ⟨hidle, ht⟩ => .inl ⟨hidle, ht, hsend⟩
  by_cases htick : i = .txTick
  · subst htick
    exact (arbiter_execTxTick h).imp_right fun ⟨hs, ht⟩ => .inr (.inl ⟨hs, ht, rfl⟩)
  by_cases hservice : i = .service
  · subst hservice
    cases (exec_service_eq hi).symm.trans h
    exact (arbiter_resume { s with micro := servicePlan s }).imp_right fun ⟨hs, ht, _⟩ => .inr (.inr ⟨hs, ht, rfl⟩)
  · obtain ⟨hactive, hfinished⟩ := exec_keeps_arbiter hi h (by simpa using hsend) htick hservice
    exact .inl (arbiter_congr hactive hfinished)

end Sys2Proof.Machine

/-! ## O54: the line is never driven and listened to -/

namespace Sys2Proof.Machine

/-- With the handler detached an EDGE is lost, or does not happen (R110, R228). -/
theorem exec_edge_detached {s t : State} (ha : s.attached = false) (h : exec .edge s = .next t) :
    t = { s with trace := t.trace } := by
  obtain ⟨-, rfl⟩ | ⟨-, -, rfl⟩ | ⟨-, -, -, ha', -⟩ | ⟨-, -, -, rfl⟩ := execEdge_cases h
  · rfl
  · rfl
  · cases ha.symm.trans ha'
  · rfl

/-- START_TIMER detaches the handler before it drives the bus (R201, R267). -/
theorem CommandOk.driveBus_mem_of_detach_mem {s : State} (h : CommandOk s) (hd : .detach ∈ s.micro) :
    .driveBus ∈ s.micro := by
  obtain hm | ⟨-, hm, -⟩ | ⟨hm, -⟩ | ⟨hm, -⟩ | ⟨n, b, -, hm⟩ := h
  · simp [hm] at hd
  · exact absurd (hm.subset hd) (by decide)
  · obtain hlate | hearly := List.suffix_or_suffix_of_suffix hm (List.suffix_append (rxDisable s.rxPresent) _)
    · exact absurd (hlate.subset hd) (by decide)
    · exact hearly.subset (by simp)
  · simpa using eq_of_mem_reenable (hm.subset hd)
  · simpa using hm.subset hd

/-- While the bus is driven, a transmission is active and START_TIMER's detach is behind (R46, R208). -/
theorem Running.attached_false_of_busEnOut {s : State} (h : Running s) (htx : s.txPresent = true)
    (hbus : s.busEnOut = true) : s.attached = false := by
  obtain ⟨hact, hdriven⟩ := (h.outputs.2 htx).2.1 hbus
  exact h.arbiter.1 hact fun hd => hdriven (h.command.driveBus_mem_of_detach_mem hd)

/-- Settles O54: each clause's premise detaches the handler, by the invariant, and a detached handler hears no edge. -/
theorem neverDrivenAndListenedTo : Obligations.NeverDrivenAndListenedTo := by
  intro s h hi
  have hrun := h.running hi
  obtain ⟨hactive, hfinished⟩ := hrun.arbiter
  refine ⟨fun hphase => ?_, fun htx hbus => ?_⟩
  · have hdet : s.attached = false :=
      hphase.elim (fun ⟨ha, hd⟩ => hactive ha hd) fun ⟨hf, hm⟩ => hfinished hf hm
    exact ⟨hdet, fun _ => exec_edge_detached hdet⟩
  · have hdet := hrun.attached_false_of_busEnOut htx hbus
    exact ⟨hdet, fun _ => exec_edge_detached hdet⟩

end Sys2Proof.Machine

/-! ## O43, O44: SERVICE -/

namespace Sys2Proof.Machine

theorem servicePlan_eq (s : State) :
    servicePlan s = if s.rxPresent = true ∧ s.frameEnd = true then
      [.decode s.burstIdx (s.bursts.take s.burstIdx), .captureReset, .checkFinished]
    else [.checkFinished] := by
  simp [servicePlan]

/-- Settles O44: the plan holds the snapshot. -/
theorem serviceStartsForEverySchedule : Obligations.ServiceStartsForEverySchedule := by
  intro s hi
  rw [exec_service_eq hi, servicePlan_eq]

/-- What SERVICE's M4 and the deferred re-enable after it make of the elements, with no event in their gaps (R203). -/
def reenabled (s : State) : State :=
  if s.txFinished = true then
    { (if s.rxPresent = true then { captureReset s with attached := true } else s) with txFinished := false }
  else s

/-- M4 and at most four micro-steps of the re-enable: three of RX_ENABLE and M8. -/
theorem goOn_checkFinished (k : Nat) {s : State} (hs : s.sched = []) :
    goOn (k + 5) { s with micro := [.checkFinished] } = { reenabled s with micro := [] } := by
  cases hf : s.txFinished with
  | false => simp [goOn, runMicro, reenabled, hs, hf]
  | true =>
    cases hr : s.rxPresent with
    | false => simp [goOn, runMicro, reenabled, reenable, rxEnable, clearFinished, hs, hf, hr]
    | true => simp [goOn, runMicro, reenabled, reenable, rxEnable, attach, clearFinished, goOn_done, hs, hf, hr]

/-- M2 and M3 of SERVICE with no event in their gaps: the decode, and the reset (R202). -/
theorem goOn_decode (k n : Nat) (B : List Count) {s : State} {ms : List Micro} (hs : s.sched = []) :
    goOn (k + 2) { s with micro := .decode n B :: .captureReset :: ms } =
      goOn k { captureReset (commitDecode n B s) with micro := ms } := by
  calc
    _ = goOn (k + 1) (commitDecode n B { s with micro := .captureReset :: ms }) :=
      goOn_free (k + 1) { s with micro := _ } _ _ rfl hs
    _ = _ := goOn_free k (commitDecode n B { s with micro := _ }) _ _ rfl hs

/-- SERVICE with a frame pending and no event in its gaps. -/
theorem resume_servicePlan_pending {s : State} (hs : s.sched = [])
    (hpending : s.rxPresent = true ∧ s.frameEnd = true) :
    resume { s with micro := servicePlan s } =
      { reenabled (captureReset (commitDecode s.burstIdx (s.bursts.take s.burstIdx) s)) with micro := [] } := by
  rw [servicePlan_eq, if_pos hpending]
  exact (goOn_decode 6 _ _ hs).trans (goOn_checkFinished 1 hs)

/-- SERVICE with no frame pending and no event in its gaps. -/
theorem resume_servicePlan_idle {s : State} (hs : s.sched = [])
    (hidle : ¬(s.rxPresent = true ∧ s.frameEnd = true)) :
    resume { s with micro := servicePlan s } = { reenabled s with micro := [] } := by
  rw [servicePlan_eq, if_neg hidle]
  exact goOn_checkFinished 3 hs

/-- Settles O43: with a frame pending M2 and M3 run first; M4 and what follows it are `reenabled`. -/
theorem serviceDecodesThenReenables : Obligations.ServiceDecodesThenReenables := by
  intro s hi hs
  refine ⟨freeFrameTail s.cfg s.freeCount (decodeFrame s.cfg s.burstIdx (s.bursts.take s.burstIdx)).data.length,
    s.freeCount + 1, ?_⟩
  rw [exec_service_eq hi]
  by_cases hpending : s.rxPresent = true ∧ s.frameEnd = true
  · simp only [if_pos hpending, resume_servicePlan_pending hs hpending]
    rfl
  · simp only [if_neg hpending, resume_servicePlan_idle hs hpending]
    rfl

end Sys2Proof.Machine

/-! ## O45, O47, O48: READ, ACTIVE and SETUP -/

namespace Sys2Proof.Machine

theorem exec_read_notSetup {s : State} (hi : s.initialized = false) : exec .read s = .refused .notSetup := by
  simp [exec, execRead, hi]

/-- READ with a frame ready (R204), and its notification if it is valid (R206). -/
theorem exec_read_ready {s : State} (hi : s.initialized = true) (hready : s.frameReady = true) :
    exec .read s = .next (notify (handedFrame s.frame)
      (record (.readResult (some (handedFrame s.frame))) { s with frameReady := false })) := by
  simp [exec, execRead, hi, hready]

theorem notify_eq (f : RawFrame) (s : State) :
    notify f s = { s with
      trace := (if f.valid = true then [.notified (hexEncode f.data)] else []) ++ s.trace } := by
  unfold notify; split <;> rfl

/-- Settles O45: `frame_ready` is cleared, so the second READ finds no frame. -/
theorem readHandsOutTheFrameOnce : Obligations.ReadHandsOutTheFrameOnce := by
  refine fun s => ⟨exec_read_notSetup, exec_read_none, fun hi hready => ⟨_, exec_read_ready hi hready, ?_, ?_⟩⟩
  · rw [notify_eq]; rfl
  · rw [notify_eq]; exact exec_read_none hi rfl

/-- Settles O47: what ACTIVE returns is `isActive`. -/
theorem activeReportsEitherDirection : Obligations.ActiveReportsEitherDirection := by
  refine fun s => ⟨fun hi => ?_, fun hi => ⟨isActive s, ?_, ?_⟩⟩
  · simp [exec, execActive, hi]
  · simp [exec, execActive, hi, record]
  · simp [isActive, or_assoc]

theorem recordAbsent_trace (tx en rx : Bool) (s : State) :
    (recordAbsent tx en rx s).trace =
      (if tx && en then [] else [.outcome .cfgTxAbsent]) ++ (if rx then [] else [.outcome .cfgRxAbsent]) ++
        s.trace := by
  cases tx <;> cases en <;> cases rx <;> rfl

theorem exec_setup_eq {tx en rx : Bool} {s : State} (hi : s.initialized = false) :
    exec (.setup tx en rx) s =
      .next (startCommand (rxEnable rx) (recordAbsent tx en rx (setupState tx en rx s))) := by
  simp [exec, execSetup, hi]

/-- Settles O48: M1, the faults recorded, and RX_ENABLE, which attaches the handler where there is an RX pin. -/
theorem setupGivesEveryElementItsValue : Obligations.SetupGivesEveryElementItsValue := by
  intro tx en rx s hi hs
  have hsched : (recordAbsent tx en rx (setupState tx en rx s)).sched = [] := by rw [recordAbsent_eq]; exact hs
  rw [exec_setup_eq hi, startCommand_rxEnable rx _ hsched, recordAbsent_eq, recordAbsent_trace]
  cases rx <;> simp [setupState, captureReset, Params.rxCap, hs]

end Sys2Proof.Machine

/-! ## O9, O10, O12: the enabling conditions, and TIME -/

namespace Sys2Proof.Machine

/-! ### Which event is enabled, in the terms of R228 and R233 -/

theorem tickEnabled_iff (s : State) :
    tickEnabled s = true ↔ s.initialized = true ∧ s.txPresent = true ∧ s.txGate = true := by
  simp [tickEnabled, and_assoc]

theorem timeEnabled_iff (t : Nat) (s : State) :
    timeEnabled t s = true ↔ s.initialized = true ∧ s.now ≤ t ∧ ¬(s.burstArmed = true ∧ s.burstDeadline < t) ∧
      ¬(s.frameArmed = true ∧ s.frameDeadline < t) := by
  simp [timeEnabled, and_assoc, imp_iff_not_or]

/-- Settles O9: each condition has its equivalence, where SETUP has been done. -/
theorem enablingConditionsAsStated : Obligations.EnablingConditionsAsStated := by
  intro s t hi
  refine ⟨?_, ?_, ?_, ?_, ?_⟩
  · simp [burstEnabled_iff, hi]
  · simp [frameEnabled_iff, burstEnabled_iff, hi, and_assoc]
  · simp [tickEnabled_iff, hi]
  · simp [edgeEnabled]
  · simp [timeEnabled_iff, hi]

/-! ### TX_TICK and TIME, where they are not enabled -/

theorem exec_txTick_notEnabled {s : State} (h : tickEnabled s = false) :
    exec .txTick s = .next (notEnabled .txTick s) := by
  simp [exec, execTxTick, h]

theorem exec_time_beforeSetup {s : State} (t : Nat) (hi : s.initialized = false) : exec (.time t) s = .next s := by
  simp [exec, execTime, hi]

theorem exec_time_notEnabled {s : State} {t : Nat} (hi : s.initialized = true) (h : timeEnabled t s = false) :
    exec (.time t) s = .next (notEnabled .time s) := by
  simp [exec, execTime, hi, h]

/-- Settles O10: each event has its equation for the case that it is not enabled. -/
theorem eventsNotEnabledDoNotHappen : Obligations.EventsNotEnabledDoNotHappen :=
  fun _ _ => ⟨exec_edge_notEnabled, exec_burstAlarm_notEnabled, exec_frameAlarm_notEnabled, exec_txTick_notEnabled,
    exec_time_notEnabled⟩

/-- Settles O12: a TIME backwards or past an armed deadline is not enabled, by `timeEnabled_iff`. -/
theorem timeMovesNowOnly : Obligations.TimeMovesNowOnly := by
  refine fun s t => ⟨exec_time_beforeSetup t, exec_time_moves, fun hi hnot => ⟨_, exec_time_notEnabled hi ?_⟩⟩
  rw [← Bool.not_eq_true, timeEnabled_iff]
  rintro ⟨-, hforwards, hburst, hframe⟩
  exact hnot.elim (Nat.not_lt.2 hforwards) (·.elim hburst hframe)

end Sys2Proof.Machine

/-! ## O11, O51: due alarms go first, and what an interrupt-role event cannot do -/

namespace Sys2Proof.Machine

/-- Of the two alarms that one edge armed, the burst-end alarm has the earlier deadline (R229 (b)). -/
theorem Running.burstDeadline_lt_frameDeadline {s : State} (h : Running s) (hb : s.burstArmed = true) :
    s.frameArmed = true ∧ s.burstDeadline < s.frameDeadline := by
  obtain ⟨-, hedge, -, -, -, -, -⟩ := h.receive
  obtain ⟨-, -, hlt, -, -⟩ := h.params
  obtain ⟨hf, hsum⟩ := hedge hb
  exact ⟨hf, by omega⟩

/-- No time passes the burst-end deadline while that alarm is armed, and the frame-end deadline is later. -/
theorem Running.burstArmed_false_of_frameDeadline_le {s : State} (h : Running s) (hd : s.frameDeadline ≤ s.now) :
    s.burstArmed = false := by
  obtain ⟨-, -, hburst, -, -, -, -⟩ := h.receive
  rw [← Bool.not_eq_true]
  intro hb
  exact absurd (hburst hb) (Nat.not_le.2 ((h.burstDeadline_lt_frameDeadline hb).2.trans_le hd))

/-- EDGE and every later TIME wait while an alarm is due (R228, R233). -/
theorem due_holds_edge_and_time {s : State} (hi : s.initialized = true)
    (hdue : (s.burstArmed = true ∧ s.burstDeadline ≤ s.now) ∨ (s.frameArmed = true ∧ s.frameDeadline ≤ s.now)) :
    edgeEnabled s = false ∧ ∀ t, s.now < t → timeEnabled t s = false := by
  simp only [← Bool.not_eq_true, edgeEnabled_iff hi, timeEnabled_iff]
  refine ⟨fun ⟨hb, hf⟩ => hdue.elim hb hf, fun t ht ⟨_, _, hb, hf⟩ => ?_⟩
  obtain ⟨ha, hd⟩ | ⟨ha, hd⟩ := hdue
  · exact hb ⟨ha, hd.trans_lt ht⟩
  · exact hf ⟨ha, hd.trans_lt ht⟩

/-- Settles O11: under the invariant the two alarms are not due at once, and either holds back EDGE and TIME. -/
theorem dueAlarmsGoFirst : Obligations.DueAlarmsGoFirst := by
  intro s hinv hi
  have hrun : Running s := hinv.running hi
  refine ⟨hrun.burstDeadline_lt_frameDeadline, fun hb hd => ?_, fun hf hd => ?_⟩
  · obtain ⟨hedge, htime⟩ := due_holds_edge_and_time hi (.inl ⟨hb, hd⟩)
    have hframe : frameEnabled s = false := by
      rw [← Bool.not_eq_true]
      intro he
      simp [hrun.burstArmed_false_of_frameEnabled he] at hb
    exact ⟨hedge, hframe, (burstEnabled_iff s).2 ⟨hi, hb, hd⟩, htime⟩
  · obtain ⟨hedge, htime⟩ := due_holds_edge_and_time hi (.inr ⟨hf, hd⟩)
    have hb : s.burstArmed = false := hrun.burstArmed_false_of_frameDeadline_le hd
    exact ⟨hedge, by simp [burstEnabled, hb], (frameEnabled_iff s).2 ⟨⟨hi, hf, hd⟩, by simp [hb]⟩, htime⟩

/-! ### Interrupt-role events -/

/-- The events of the interrupt role are TX_TICK and those of the Burst Capture Engine (R91). -/
theorem eq_txTick_or_mem_captureEvents {i : Instr} (h : i.role = .interrupt) : i = .txTick ∨ i ∈ captureEvents := by
  cases i <;> simp [Instr.role, captureEvents] at h ⊢

/-- No tick clears `tx_finished`: the finish sets it. -/
theorem tick_keeps_txFinished {s : State} (h : s.txFinished = true) : (tick s).txFinished = true := by
  obtain ⟨-, ht⟩ | ⟨-, -, -, ht⟩ | ⟨-, -, -, -, ht⟩ | ⟨-, -, -, -, -, ht⟩ | ⟨-, -, -, -, -, ht⟩ | ⟨-, -, ht⟩ :=
    tick_cases s <;> rw [ht]
  · exact h
  · rfl
  all_goals exact h

/-- Settles O51: a tick writes the TX side alone, and no event of the Burst Capture Engine writes any of these
elements. -/
theorem interruptRoleKeepsOut : Obligations.InterruptRoleKeepsOut := by
  intro i s t hrole h
  obtain rfl | hcapture := eq_txTick_or_mem_captureEvents hrole
  · obtain ⟨-, rfl⟩ | ⟨-, rfl⟩ := execTxTick_cases h
    · have hfinished : s.txFinished = true → (tick s).txFinished = true := tick_keeps_txFinished
      obtain ⟨_, _, _, _, _, _, _, _, _, _, _, ht⟩ := tick_frame s
      rw [ht] at hfinished ⊢
      exact ⟨rfl, rfl, rfl, hfinished, rfl, rfl, rfl⟩
    · exact ⟨rfl, rfl, rfl, id, rfl, rfl, rfl⟩
  · obtain rfl | ⟨_, rfl⟩ | ⟨-, -, -, rfl⟩ | rfl | rfl := captureEvent_cases hcapture h <;>
      exact ⟨rfl, rfl, rfl, id, rfl, rfl, rfl⟩

end Sys2Proof.Machine

/-! ## O7, O8: the refusals of R223 -/

namespace Sys2Proof.Machine

/-! ### Each row of R223's table -/

/-- A host command other than SETUP is refused before SETUP. -/
theorem exec_refused_notSetup {i : Instr} {s : State} (hi : s.initialized = false)
    (h : i = .service ∨ i = .read ∨ isSend i = true ∨ i = .active) : exec i s = .refused .notSetup := by
  cases i with
  | service => simp [exec, execService, hi]
  | read => exact exec_read_notSetup hi
  | active => simp [exec, execActive, hi]
  | send b => exact exec_send_notSetup b hi
  | sendHex c => exact exec_sendHex_notSetup c hi
  | _ => simp [isSend] at h

theorem exec_refused_txAbsent {i : Instr} {s : State} (hi : s.initialized = true) (htx : s.txPresent = false)
    (hsend : isSend i = true) : exec i s = .refused .txAbsent := by
  cases i with
  | send b => exact exec_send_txAbsent hi htx
  | sendHex c => exact exec_sendHex_txAbsent hi htx
  | _ => cases hsend

/-! ### What is not refused -/

/-- The environment's operations are never refused: an event that is not enabled does not happen (R233). -/
theorem exists_exec_of_role {i : Instr} (s : State) (h : i.role ≠ .service) : ∃ t, exec i s = .next t := by
  cases i with
  | edge => simp only [exec, execEdge]; split_ifs <;> exact ⟨_, rfl⟩
  | burstAlarm => simp only [exec, execBurstAlarm]; split_ifs <;> exact ⟨_, rfl⟩
  | frameAlarm => simp only [exec, execFrameAlarm]; split_ifs <;> exact ⟨_, rfl⟩
  | txTick => exact exists_exec_txTick s
  | time t => simp only [exec, execTime]; split_ifs <;> exact ⟨_, rfl⟩
  | _ => simp [Instr.role] at h

section AfterSetup
variable {s : State} (hi : s.initialized = true)
include hi

/-- SEND with a TX subsystem is accepted or rejected, never refused (R163). -/
theorem exists_exec_send (htx : s.txPresent = true) (b : List Byte) : ∃ t, exec (.send b) s = .next t := by
  simp only [exec, execSend, sendBytes, hi, htx, Bool.not_true, Bool.false_eq_true, if_false]
  split_ifs <;> exact ⟨_, rfl⟩

/-- SEND_HEX with a TX subsystem is rejected by HEX_DECODE, or is a SEND (R167). -/
theorem exists_exec_sendHex (htx : s.txPresent = true) (c : List Byte) : ∃ t, exec (.sendHex c) s = .next t := by
  cases hd : hexDecode s.cfg c with
  | error e => exact ⟨_, exec_sendHex_rejected hi htx hd⟩
  | ok b => rw [exec_sendHex_decoded hi htx hd]; exact exists_exec_send hi htx b

theorem exists_exec_read : ∃ t, exec .read s = .next t := by
  cases hready : s.frameReady with
  | true => exact ⟨_, exec_read_ready hi hready⟩
  | false => exact ⟨_, exec_read_none hi hready⟩

/-- After SETUP only a second SETUP, and a SEND without a TX subsystem, can be refused. -/
theorem exists_exec_afterSetup {i : Instr} (hsetup : isSetup i = false) (htx : isSend i = true → s.txPresent = true) :
    ∃ t, exec i s = .next t := by
  cases i with
  | setup tx en rx => cases hsetup
  | service => exact ⟨_, exec_service_eq hi⟩
  | read => exact exists_exec_read hi
  | send b => exact exists_exec_send hi (htx rfl) b
  | sendHex c => exact exists_exec_sendHex hi (htx rfl) c
  | active => simp [exec, execActive, hi]
  | _ => exact exists_exec_of_role s (by simp [Instr.role])

end AfterSetup

/-- Before SETUP only the host commands other than SETUP are refused. -/
theorem exists_exec_beforeSetup {i : Instr} {s : State} (hi : s.initialized = false)
    (h : ¬(i = .service ∨ i = .read ∨ isSend i = true ∨ i = .active)) : ∃ t, exec i s = .next t := by
  cases i with
  | setup tx en rx => exact ⟨_, exec_setup_eq hi⟩
  | service | read | active | send b | sendHex c => simp [isSend] at h
  | _ => exact exists_exec_of_role s (by simp [Instr.role])

/-! ### The table -/

theorem exec_ne_refused_of_exists {i : Instr} {s : State} {rf : Refusal} (h : ∃ t, exec i s = .next t) :
    exec i s ≠ .refused rf := by
  obtain ⟨t, ht⟩ := h
  simp [ht]

/-- The rows of R223's table that `exec` answers: RF_NOT_SETUP, RF_RESETUP and RF_TX_ABSENT. -/
theorem exec_eq_refused_iff (i : Instr) (s : State) (rf : Refusal) : exec i s = .refused rf ↔
    (rf = .notSetup ∧ s.initialized = false ∧ (i = .service ∨ i = .read ∨ isSend i = true ∨ i = .active)) ∨
    (rf = .resetup ∧ s.initialized = true ∧ isSetup i = true) ∨
    (rf = .txAbsent ∧ s.initialized = true ∧ s.txPresent = false ∧ isSend i = true) := by
  constructor
  · intro h
    cases hi : s.initialized with
    | false =>
      by_cases hhost : i = .service ∨ i = .read ∨ isSend i = true ∨ i = .active
      · cases (exec_refused_notSetup hi hhost).symm.trans h
        exact .inl ⟨rfl, rfl, hhost⟩
      · exact absurd h (exec_ne_refused_of_exists (exists_exec_beforeSetup hi hhost))
    | true =>
      by_cases hsetup : isSetup i = true
      · cases (exec_setup_refused hi hsetup).symm.trans h
        exact .inr (.inl ⟨rfl, rfl, hsetup⟩)
      by_cases habsent : s.txPresent = false ∧ isSend i = true
      · obtain ⟨htx, hsend⟩ := habsent
        cases (exec_refused_txAbsent hi htx hsend).symm.trans h
        exact .inr (.inr ⟨rfl, rfl, htx, hsend⟩)
      · have htx (hsend : isSend i = true) : s.txPresent = true := by simpa [hsend] using habsent
        exact absurd h (exec_ne_refused_of_exists (exists_exec_afterSetup hi (by simpa using hsetup) htx))
  · rintro (⟨rfl, hi, hhost⟩ | ⟨rfl, hi, hsetup⟩ | ⟨rfl, hi, htx, hsend⟩)
    · exact exec_refused_notSetup hi hhost
    · exact exec_setup_refused hi hsetup
    · exact exec_refused_txAbsent hi htx hsend

theorem exec_ne_refused_reserved (i : Instr) (s : State) : exec i s ≠ .refused .reserved := by
  simp [exec_eq_refused_iff]

/-! ### The step's answers -/

/-- A step answers a next state, RF_RESERVED on bytes that spell no operation, or what the operation it runs answers. -/
theorem step_next_or_reserved_or_exec (s : State) :
    (∃ t, step s = .next t) ∨
    (((s.micro = [] ∨ ∃ ts, s.sched = .event :: ts) ∧ s.inbox ≠ [] ∧ decode s.inbox = none) ∧
      step s = .refused .reserved) ∨
    ∃ i r u, decode s.inbox = some (i, r) ∧ step s = exec i u := by
  obtain ⟨-, -, hs⟩ | ⟨hm, hb, hd, hs⟩ | ⟨i, r, -, hd, hs⟩ | ⟨ts, -, hturn, hb, hd, hs⟩ |
    ⟨ts, i, r, -, -, hd, -, hs⟩ | ⟨ts, -, -, -, hs⟩ | ⟨-, -, hs⟩ := step_cases s
  · exact .inl ⟨_, hs⟩
  · exact .inr (.inl ⟨⟨.inl hm, hb, hd⟩, hs⟩)
  · exact .inr (.inr ⟨i, r, _, hd, hs⟩)
  · exact .inr (.inl ⟨⟨.inr ⟨ts, hturn⟩, hb, hd⟩, hs⟩)
  · exact .inr (.inr ⟨i, r, _, hd, hs⟩)
  · exact .inl ⟨_, hs⟩
  · exact .inl ⟨_, hs⟩

/-- RF_RESERVED is the step's own refusal (R97). -/
theorem step_eq_refused_reserved_iff (s : State) : step s = .refused .reserved ↔
    (s.micro = [] ∨ ∃ ts, s.sched = .event :: ts) ∧ s.inbox ≠ [] ∧ decode s.inbox = none := by
  refine ⟨fun h => ?_, fun ⟨hturn, hb, hd⟩ => step_refuses_reserved hturn hb hd⟩
  obtain ⟨t, hs⟩ | ⟨hbytes, -⟩ | ⟨i, r, u, -, hs⟩ := step_next_or_reserved_or_exec s
  · cases hs.symm.trans h
  · exact hbytes
  · exact absurd (hs.symm.trans h) (exec_ne_refused_reserved i u)

/-- Settles O8: `exec` answers three rows of the table and the step the fourth; before SETUP no alarm and no tick is
enabled, for each condition asks for SETUP. -/
theorem refusalsAreTheFourOfTheTable : Obligations.RefusalsAreTheFourOfTheTable := by
  refine ⟨exec_eq_refused_iff, step_eq_refused_reserved_iff, fun s hi =>
    ⟨exec_edge_beforeSetup hi, fun t => exec_time_beforeSetup t hi, ?_, ?_, ?_⟩⟩
  · simp [burstEnabled, hi]
  · simp [frameEnabled, frameDue, hi]
  · simp [tickEnabled, hi]

/-! ### Every step -/

/-- `exec` answers a next state or a refusal of R223's table. -/
theorem exec_next_or_refused (i : Instr) (s : State) : (∃ t, exec i s = .next t) ∨ exec i s = .refused .notSetup ∨
    exec i s = .refused .resetup ∨ exec i s = .refused .txAbsent := by
  cases h : exec i s with
  | next t => exact .inl ⟨t, rfl⟩
  | fault f => cases f
  | refused rf => obtain ⟨rfl, -⟩ | ⟨rfl, -⟩ | ⟨rfl, -⟩ := (exec_eq_refused_iff i s rf).1 h <;> simp

/-- An operation of the inbox that runs between commands does not stop the block: in a gap an event runs, a host command
waits, and otherwise the command in progress goes on (O5). -/
theorem exists_step_of_exec {s : State} {i : Instr} {r : List Byte} (hd : decode s.inbox = some (i, r))
    (hexec : ∃ t, exec i { s with inbox := r } = .next t) : ∃ t, step s = .next t := by
  obtain ⟨hidle, hevent, hhost, hgoOn⟩ := stepRunsTheDecodedOperation s i r hd
  by_cases hm : s.micro = []
  · rw [hidle hm]; exact hexec
  by_cases hgap : ∃ ts, s.sched = .event :: ts
  · obtain ⟨ts, hs⟩ := hgap
    by_cases hrole : i.role = .service
    · exact ⟨_, hhost ts hm hs hrole⟩
    · rw [hevent ts hm hs hrole]; exact exists_exec_of_role _ hrole
  · exact ⟨_, hgoOn hm fun ts hs => hgap ⟨ts, hs⟩⟩

/-- With nothing in the inbox there are no bytes to refuse and no operation to run. -/
theorem exists_step_of_inbox_nil {s : State} (hb : s.inbox = []) : ∃ t, step s = .next t := by
  obtain hnext | ⟨⟨-, hn, -⟩, -⟩ | ⟨i, r, u, hd, -⟩ := step_next_or_reserved_or_exec s
  · exact hnext
  · exact absurd hb hn
  · simp [hb, decode_nil] at hd

/-- Settles O7: a step refuses the bytes itself or answers as an operation does, and what `exec` refuses is the
table's. -/
theorem everyStepAnswersNextOrARefusalOfTheTable : Obligations.EveryStepAnswersNextOrARefusalOfTheTable := by
  refine ⟨fun s => ?_, fun s i r hi hd hsetup htx =>
    exists_step_of_exec hd (exists_exec_afterSetup (s := { s with inbox := r }) hi hsetup htx),
    fun s => exists_step_of_inbox_nil⟩
  obtain hnext | ⟨-, hreserved⟩ | ⟨i, _, u, -, hs⟩ := step_next_or_reserved_or_exec s
  · exact .inl hnext
  · simp [hreserved]
  · rw [hs]
    obtain hnext | h | h | h := exec_next_or_refused i u
    · exact .inl hnext
    all_goals simp [h]

end Sys2Proof.Machine

/-! ## O30, O49: merged frames, and the block before SETUP -/

namespace Sys2Proof.Machine

/-- Settles O30: the bursts after the start marker number `9 * (k + l) + 1`, so they are not whole words. -/
theorem mergedFramesFailTheLength : Obligations.MergedFramesFailTheLength :=
  fun _ _ _ _ hstart => decodeFrame_decLength (by omega) hstart (by omega)

/-- Before SETUP an operation other than SETUP is refused, has no effect, or does not happen, which leaves a label
(R250; log 6). -/
theorem exec_beforeSetup_keeps_elements {i : Instr} {s t : State} (hi : s.initialized = false)
    (hsetup : isSetup i = false) (h : exec i s = .next t) : t = { s with trace := t.trace } := by
  obtain ⟨-, -, hbefore⟩ := refusalsAreTheFourOfTheTable
  obtain ⟨hedge, htime, hburst, hframe, htick⟩ := hbefore s hi
  have hnotRefused : exec i s ≠ .refused .notSetup := exec_ne_refused_of_exists ⟨t, h⟩
  cases i with
  | setup tx en rx => cases hsetup
  | edge => cases hedge.symm.trans h; rfl
  | time u => cases (htime u).symm.trans h; rfl
  | burstAlarm => cases (exec_burstAlarm_notEnabled hburst).symm.trans h; rfl
  | frameAlarm => cases (exec_frameAlarm_notEnabled hframe).symm.trans h; rfl
  | txTick => cases (exec_txTick_notEnabled htick).symm.trans h; rfl
  | service | read | send b | sendHex c | active =>
    exact absurd (exec_refused_notSetup hi (by simp [isSend])) hnotRefused

/-- Settles O49: O8 has what is refused and what is not enabled; no other operation writes an element. -/
theorem beforeSetupOnlySetupActs : Obligations.BeforeSetupOnlySetupActs := by
  intro s hi
  obtain ⟨-, -, hbefore⟩ := refusalsAreTheFourOfTheTable
  obtain ⟨hedge, htime, hburst, hframe, htick⟩ := hbefore s hi
  exact ⟨hedge, htime, exec_refused_notSetup hi (by simp), exec_refused_notSetup hi (by simp),
    exec_refused_notSetup hi (by simp), fun _ => exec_refused_notSetup hi (by simp [isSend]),
    fun _ => exec_refused_notSetup hi (by simp [isSend]), hburst, hframe, htick,
    fun _ _ => exec_beforeSetup_keeps_elements hi⟩

end Sys2Proof.Machine
